-- ==== Sys2Proof/Word.lean ====
section
/-! DEFINITION. Word.lean: the bit-vector types of the part (R89, R92, R123, R148, R152). -/

namespace Sys2Proof

/-- One byte of a serial link (R151, R146). -/
abbrev Byte := BitVec 8

/-- A 16-bit word: the check of a frame (R146, R152) and the order counter of a drive port (R148). -/
abbrev Half := BitVec 16

/-- A quantity counted modulo 2^32: the belt position in mm (R89), the sequence counter (R92) and the
millisecond time base (R123). -/
abbrev Word := BitVec 32

end Sys2Proof
end

