-- ==== Sys2Proof/Config.lean ====
section
/-! DEFINITION. Config.lean: the fixed numbers of the rules, each under a name, and the free values of the
model. A free value is an opaque constant: nothing can evaluate it. -/

namespace Sys2Proof

/-- The upper end of every mass field of the Bill Book, in kg (R107). -/
def Config.maxMass : Nat := 4000000000

/-- FREE VALUE (log 9, DESIGN CHOICE): what a mass field holds when the exact result of a booking lies outside
0..4,000,000,000 kg. The spec states no result there, but every mass field holds a value of that range (R107), and so
does this one. The arguments are the number of the booking, the field and the exact result, so two such results are
unrelated. -/
opaque Config.freeMass (draw field : Nat) (exact : Int) : Fin (Config.maxMass + 1)

/-- FREE VALUE (log 35, DESIGN CHOICE): the four bytes of a number that four bytes cannot hold, such as an order balance below
−2,147,483,648 kg (R117). R154 gives every such number four bytes and states no result for it. The argument is the exact
number. -/
opaque Config.freeWord (exact : Int) : BitVec 32

/-- The step list's capacity (R2). -/
def Config.maxSteps : Nat := 64
/-- The id counter's value when the ids are exhausted (R2, R4). -/
def Config.idsExhausted : Nat := 256
/-- The Transit Queue's capacity (R95). -/
def Config.maxParcels : Nat := 512
/-- The count at which the queue condition stands (R96). -/
def Config.queueLimit : Nat := 480
/-- Half the width of a stationary claim, in mm (R51). -/
def Config.claimMargin : Int := 3000
/-- The gap the two claims must keep, in mm (R51). -/
def Config.claimGap : Int := 2000
/-- The alignment tolerance, in mm (R55). -/
def Config.alignTolerance : Int := 150
/-- The drift tolerance, in mm (R62). -/
def Config.driftTolerance : Int := 500
/-- How far the tip limit lies below the coaming level, in mm (R58, R61). -/
def Config.tipMargin : Int := 2000
/-- The travel timer, in ms (R49, R54). -/
def Config.travelTime : Nat := 240000
/-- The spout timer, in ms (R49, R58, R60). -/
def Config.spoutTime : Nat := 60000
/-- The report age at which a drive is lost, in ms (R62). -/
def Config.driveLostAge : Nat := 1000
/-- The value at which the report age stays, in ms (R62). -/
def Config.maxReportAge : Nat := 4294967295
/-- The closure timer, in ms (R68, R73). -/
def Config.closureTime : Nat := 10000
/-- The move timer, in ms (R78, R80). -/
def Config.moveTime : Nat := 20000
/-- The age a level must exceed to be aged, in s (R70). -/
def Config.agedAfter : Nat := 600
/-- The age at which a level's age stays, in s (R32). -/
def Config.maxLevelAge : Nat := 3600
/-- The age a time of the alarm history must exceed to leave it, in ms (R126). -/
def Config.historyAge : Nat := 1800000
/-- The number of times at which a zone is locked out (R126). -/
def Config.alarmsToLockout : Nat := 3
/-- The silence after which a link goes DOWN, in ms (R160). -/
def Config.silenceTime : Nat := 2000
/-- The request queue's capacity (R150, R155). -/
def Config.maxRequests : Nat := 4
/-- The output queue's capacity (R150, R159). -/
def Config.maxFrames : Nat := 8
/-- The number of answers and notices at which no further one is placed (R159). -/
def Config.maxHeld : Nat := 6
/-- The drive port's order queue capacity (R148). -/
def Config.maxOrders : Nat := 4
/-- The longest body of a master link frame, in bytes (R152, R153). -/
def Config.maxBody : Nat := 240
/-- One kilogram in kg·ppm (R90). -/
def Config.ppm : Nat := 1000000
/-- The value at which an occurrence count stays (R164). -/
def Config.maxOccurrences : Nat := 255

end Sys2Proof
end

