-- ==== Sys2Proof/Syntax.lean ====
section
/-! DEFINITION. Syntax.lean: the commands of the part, one constructor for each row of spec/opcode_table.json, in the
table's order. The first fifty are the requests of the master links (R156): the command is the TAKING of that request
by its owning block (R157). The others are the events of the links, the drives, the field lines, the timers and the
supply. -/

namespace Sys2Proof

/-- The three master links (R150). The role of a link is fixed by the link (R156). -/
inductive Link where
  | terminal | vessel | survey
  deriving DecidableEq, Repr

/-- The two loaders, and with them the two drive ports (R49, R146). -/
inductive Loader where
  | l1 | l2
  deriving DecidableEq, Repr

/-- The three dust zones (R123). -/
inductive Zone where
  | z1 | z2 | z3
  deriving DecidableEq, Repr

/-- The drive status of a position report (R146). -/
inductive DriveStatus where
  | ready | moving | halted | fault
  deriving DecidableEq, Repr

/-- One pour point of a hold descriptor, as two percentages of the hatch opening (R28). -/
structure PourPoint where
  along : Nat
  athwart : Nat
  deriving DecidableEq, Repr

/-- The commands. Every request carries its frame's tag; a request that more than one role may send carries its link.
Numbers and enumerations stand as the body carries them (R154), so that the owning block makes the RANGE checks. -/
inductive Instr where
  | mooring (tag : Byte) (sternX fender orientation : Nat)
  | zoneSet (tag : Byte) (index : Nat) (enable : Bool) (xmin xmax ymin ymax : Nat)
  | flush (tag : Byte)
  | move (tag : Byte) (loader hold point : Nat)
  | lower (tag : Byte) (loader : Nat)
  | raise (tag : Byte) (loader : Nat)
  | stop (tag : Byte) (loader : Nat)
  | recover (tag : Byte) (loader : Nat)
  | planAccept (tag : Byte)
  | planReturn (tag : Byte)
  | stepStart (tag : Byte) (step : Nat)
  | stepStop (tag : Byte) (step : Nat)
  | hold (tag : Byte)
  | resume (tag : Byte)
  | consentConfig (tag : Byte) (seconds : Nat)
  | divert (tag : Byte) (target : Nat)
  | feedReset (tag : Byte)
  | beltConfig (tag : Byte) (pitch transit length runOut tail band : Nat)
  | dustConfig (tag : Byte) (zone seconds : Nat)
  | dustReset (tag : Byte) (zone : Nat)
  | lineConfig (tag : Byte) (line mode : Nat) (enable : Bool) (exponent : Nat)
  | lineLock (tag : Byte)
  | lineAck (tag : Byte) (line : Nat)
  | hatchDefine (tag : Byte) (hold aft fore inner outer : Nat) (points : List PourPoint)
  | hatchDelete (tag : Byte) (hold : Nat)
  | level (tag : Byte) (hold : Nat) (height : Int)
  | stepInsert (tag : Byte) (before : Option Nat) (hold point loader lot target : Nat) (consent : Bool)
  | stepDelete (tag : Byte) (step : Nat)
  | stepAmend (tag : Byte) (step field value : Nat)
  | stepSkip (tag : Byte) (step : Nat)
  | planSubmit (tag : Byte)
  | planWithdraw (tag : Byte)
  | planClear (tag : Byte)
  | consent (tag : Byte) (step decision : Nat)
  | halt (tag : Byte)
  | release (tag : Byte)
  | endPour (tag : Byte) (step : Nat)
  | metrologySet (tag : Byte) (quantum span : Nat)
  | metrologyLock (tag : Byte)
  | lotOpen (tag : Byte) (lot : Nat) (reference : List Nat) (ordered : Option Nat)
  | lotClose (tag : Byte) (lot : Nat)
  | bookClear (tag : Byte)
  | probe (link : Link) (tag : Byte) (hold point : Nat)
  | bookRead (link : Link) (tag : Byte) (record part : Nat)
  | planRead (link : Link) (tag : Byte) (position : Nat)
  | loaderRead (link : Link) (tag : Byte) (loader : Nat)
  | queueRead (link : Link) (tag : Byte)
  | status (link : Link) (tag : Byte) (part : Nat)
  | fetchEvents (link : Link) (tag : Byte)
  | routeSet (link : Link) (tag : Byte) (codes : List Nat)
  | masterFrameReceived (link : Link) (bytes : List Byte)
  | framingError (link : Link)
  | frameGapTimeout (link : Link)
  | frameSent (link : Link)
  | silenceTimerExpiry (link : Link)
  | linkBreak (link : Link)
  | breakEnd (link : Link)
  | positionReport (loader : Loader) (status : DriveStatus) (x y : Nat)
  | driveFrameTimeout (loader : Loader)
  | driveFramingError (loader : Loader)
  | orderFrameSent (loader : Loader)
  | travelTimerExpiry (loader : Loader)
  | spoutTimerExpiry (loader : Loader)
  | driveLost (loader : Loader)
  | consentWindowExpiry
  | conditionChange (line : Fin 16) (high : Bool)
  | closureTimerExpiry
  | moveTimerExpiry
  | levelAgeExpiry (hold : Nat)
  | purgeTimerExpiry (zone : Zone)
  | alarmHistoryExpiry (zone : Zone)
  | increment
  | beltAdvance
  | warmReset (raw : Half) (strapClosed : Bool)
  | retainedClear (raw : Half) (strapClosed : Bool)
  | powerOn (raw : Half) (strapClosed : Bool)
  | mainSupplyLoss
  | lineSample (line : Fin 16) (high : Bool)
  | markerReceived (link : Link)
  | partialFrameAbandoned (link : Link)
  | syncByteReceived (loader : Loader)
  | driveFrameDiscarded (loader : Loader) (bytes : List Byte)
  | bkokDeasserted
  deriving DecidableEq, Repr

end Sys2Proof
end

