-- ==== Sys2Proof/WellFormed.lean ====
section
/-! DEFINITION. WellFormed.lean: when a command's operands are ones its row can carry. A request's fields fit the
widths of R154 and its body is at most 240 bytes (R152); an event's operands lie in the ranges its rule gives. The
RANGE checks of the requests are not made here: they are the owning block's (R154). -/

namespace Sys2Proof

/-- The number fits one byte (R154). -/
def fitsByte (n : Nat) : Bool := decide (n < 256)
/-- The number fits two bytes (R154). -/
def fitsHalf (n : Nat) : Bool := decide (n < 65536)
/-- The number fits four bytes (R154). -/
def fitsWord (n : Nat) : Bool := decide (n < 4294967296)
/-- The number fits two bytes in two's complement (R154). -/
def fitsSigned (i : Int) : Bool := decide (-32768 ≤ i ∧ i ≤ 32767)
/-- An optional one-byte number fits (R154). -/
def fitsOptByte : Option Nat → Bool
  | none => true
  | some n => fitsByte n
/-- An optional four-byte number fits (R154). -/
def fitsOptWord : Option Nat → Bool
  | none => true
  | some n => fitsWord n
/-- Every number of a list fits one byte (R154). -/
def fitBytes (l : List Nat) : Bool := l.all fitsByte

/-- A command whose operands its row can carry. -/
def Instr.wellFormed : Instr → Bool
  | .mooring _ x f o => fitsWord x && fitsHalf f && fitsByte o
  | .zoneSet _ i _ xl xh yl yh => fitsByte i && fitsWord xl && fitsWord xh && fitsHalf yl && fitsHalf yh
  | .flush _ => true
  | .move _ l h p => fitsByte l && fitsByte h && fitsByte p
  | .lower _ l => fitsByte l
  | .raise _ l => fitsByte l
  | .stop _ l => fitsByte l
  | .recover _ l => fitsByte l
  | .planAccept _ => true
  | .planReturn _ => true
  | .stepStart _ i => fitsByte i
  | .stepStop _ i => fitsByte i
  | .hold _ => true
  | .resume _ => true
  | .consentConfig _ w => fitsHalf w
  | .divert _ t => fitsByte t
  | .feedReset _ => true
  | .beltConfig _ e d l r a b =>
    fitsByte e && fitsWord d && fitsHalf l && fitsWord r && fitsHalf a && fitsHalf b
  | .dustConfig _ z w => fitsByte z && fitsHalf w
  | .dustReset _ z => fitsByte z
  | .lineConfig _ l m _ n => fitsByte l && fitsByte m && fitsByte n
  | .lineLock _ => true
  | .lineAck _ l => fitsByte l
  | .hatchDefine _ h a f i o ps =>
    fitsByte h && fitsWord a && fitsWord f && fitsHalf i && fitsHalf o
      && ps.all (fun p => fitsByte p.along && fitsByte p.athwart) && decide (ps.length ≤ 113)
  | .hatchDelete _ h => fitsByte h
  | .level _ h v => fitsByte h && fitsSigned v
  | .stepInsert _ b h p l t g _ =>
    fitsOptByte b && fitsByte h && fitsByte p && fitsByte l && fitsByte t && fitsWord g
  | .stepDelete _ i => fitsByte i
  | .stepAmend _ i f v => fitsByte i && fitsByte f && fitsWord v
  | .stepSkip _ i => fitsByte i
  | .planSubmit _ => true
  | .planWithdraw _ => true
  | .planClear _ => true
  | .consent _ i d => fitsByte i && fitsByte d
  | .halt _ => true
  | .release _ => true
  | .endPour _ i => fitsByte i
  | .metrologySet _ q sp => fitsByte q && fitsWord sp
  | .metrologyLock _ => true
  | .lotOpen _ l r o => fitsByte l && fitBytes r && fitsOptWord o && decide (r.length ≤ 233)
  | .lotClose _ l => fitsByte l
  | .bookClear _ => true
  | .probe _ _ h p => fitsByte h && fitsByte p
  | .bookRead _ _ r p => fitsByte r && fitsByte p
  | .planRead _ _ p => fitsByte p
  | .loaderRead _ _ l => fitsByte l
  | .queueRead _ _ => true
  | .status _ _ p => fitsByte p
  | .fetchEvents _ _ => true
  | .routeSet _ _ cs => fitBytes cs && decide (cs.length ≤ 239)
  | .masterFrameReceived _ _ => true
  | .framingError _ => true
  | .frameGapTimeout _ => true
  | .frameSent _ => true
  | .silenceTimerExpiry _ => true
  | .linkBreak _ => true
  | .breakEnd _ => true
  | .positionReport _ _ x y => fitsWord x && fitsHalf y
  | .driveFrameTimeout _ => true
  | .driveFramingError _ => true
  | .orderFrameSent _ => true
  | .travelTimerExpiry _ => true
  | .spoutTimerExpiry _ => true
  | .driveLost _ => true
  | .consentWindowExpiry => true
  | .conditionChange _ _ => true
  | .closureTimerExpiry => true
  | .moveTimerExpiry => true
  | .levelAgeExpiry h => decide (1 ≤ h ∧ h ≤ 12)
  | .purgeTimerExpiry _ => true
  | .alarmHistoryExpiry _ => true
  | .increment => true
  | .beltAdvance => true
  | .warmReset _ _ => true
  | .retainedClear _ _ => true
  | .powerOn _ _ => true
  | .mainSupplyLoss => true
  | .lineSample _ _ => true
  | .markerReceived _ => true
  | .partialFrameAbandoned _ => true
  | .syncByteReceived _ => true
  | .driveFrameDiscarded _ _ => true
  | .bkokDeasserted => true

end Sys2Proof
end

