-- ==== Sys2Proof/Decode.lean ====
section
/-! DEFINITION. Decode.lean: the check of a frame (R146, R152), the bodies of the fifty requests read and written by the
encoding of R154, the request codes and the authority table of R156, and decodeTableWord. No row of
spec/opcode_table.json has bits, so decodeTableWord answers none for every word (log 27). -/

namespace Sys2Proof

/-! ### The check: CRC-16, polynomial 0x1021, initial value 0xFFFF (R146, R152) -/

/-- One bit of the check's division, the register's most significant bit first. -/
def crcBit (c : Half) : Half :=
  if c.msb then (c <<< 1) ^^^ 0x1021#16 else c <<< 1

/-- One byte of the check, most significant bit first, with no reflection. -/
def crcByte (c : Half) (b : Byte) : Half :=
  crcBit (crcBit (crcBit (crcBit (crcBit (crcBit (crcBit (crcBit (c ^^^ ((b.setWidth 16) <<< 8)))))))))

/-- The check of a run of bytes. -/
def crc16 (bytes : List Byte) : Half := bytes.foldl crcByte 0xFFFF#16

/-- A 16-bit word as two bytes, high byte first. -/
def halfBytes (h : Half) : List Byte := [(h >>> 8).setWidth 8, h.setWidth 8]

/-! ### Fields of a body, high byte first (R154) -/

/-- A number of one byte. -/
def u8 (n : Nat) : List Byte := [BitVec.ofNat 8 n]
/-- A number of two bytes. -/
def u16 (n : Nat) : List Byte := [BitVec.ofNat 8 (n / 256), BitVec.ofNat 8 n]
/-- The four bytes of a word. -/
def wordBytes (n : Nat) : List Byte :=
  [BitVec.ofNat 8 (n / 16777216), BitVec.ofNat 8 (n / 65536), BitVec.ofNat 8 (n / 256), BitVec.ofNat 8 n]
/-- A number of four bytes; one above 4,294,967,295 has free bytes, since R154 states no result for it (log 35). -/
def u32 (n : Nat) : List Byte := wordBytes (if n < 4294967296 then n else (Config.freeWord n).toNat)
/-- A number of two bytes in two's complement. -/
def i16 (i : Int) : List Byte := u16 (BitVec.ofInt 16 i).toNat
/-- A number of four bytes in two's complement; one outside −2,147,483,648..2,147,483,647, such as an order balance below that
range (R117), has free bytes, since R154 states no result for it (log 35). -/
def i32 (i : Int) : List Byte :=
  wordBytes (if -2147483648 ≤ i ∧ i < 2147483648 then BitVec.ofInt 32 i else Config.freeWord i).toNat
/-- A flag, 0 for clear and 1 for set. -/
def flag (b : Bool) : List Byte := [if b then 1#8 else 0#8]
/-- An optional field: a presence byte, and the field when present. -/
def optField (enc : Nat → List Byte) : Option Nat → List Byte
  | none => flag false
  | some n => flag true ++ enc n
/-- A text or list of one-byte numbers: a count byte and the elements. -/
def byteList (l : List Nat) : List Byte := u8 l.length ++ l.flatMap u8

/-- Reads a number of one byte. -/
def readU8 : List Byte → Option (Nat × List Byte)
  | b :: r => some (b.toNat, r)
  | [] => none
/-- Reads a number of two bytes. -/
def readU16 : List Byte → Option (Nat × List Byte)
  | b1 :: b0 :: r => some (b1.toNat * 256 + b0.toNat, r)
  | _ => none
/-- Reads a number of four bytes. -/
def readU32 : List Byte → Option (Nat × List Byte)
  | b3 :: b2 :: b1 :: b0 :: r =>
    some (((b3.toNat * 256 + b2.toNat) * 256 + b1.toNat) * 256 + b0.toNat, r)
  | _ => none
/-- Reads a number of two bytes in two's complement. -/
def readI16 (bytes : List Byte) : Option (Int × List Byte) :=
  match readU16 bytes with
  | some (n, r) => some ((BitVec.ofNat 16 n).toInt, r)
  | none => none
/-- Reads a flag or a presence byte; a value other than 0 and 1 is not well formed. -/
def readFlag : List Byte → Option (Bool × List Byte)
  | b :: r => if b = 0#8 then some (false, r) else if b = 1#8 then some (true, r) else none
  | [] => none
/-- Reads a count of one-byte numbers. -/
def readMany : Nat → List Byte → Option (List Nat × List Byte)
  | 0, r => some ([], r)
  | _ + 1, [] => none
  | n + 1, b :: r =>
    match readMany n r with
    | some (l, r') => some (b.toNat :: l, r')
    | none => none
/-- Reads a text or a list of one-byte numbers. -/
def readByteList (bytes : List Byte) : Option (List Nat × List Byte) :=
  match readU8 bytes with
  | some (n, r) => readMany n r
  | none => none
/-- Reads a count of pour points. -/
def readPoints : Nat → List Byte → Option (List PourPoint × List Byte)
  | 0, r => some ([], r)
  | n + 1, a :: b :: r =>
    match readPoints n r with
    | some (l, r') => some (⟨a.toNat, b.toNat⟩ :: l, r')
    | none => none
  | _ + 1, _ => none
/-- Reads an optional one-byte number. -/
def readOptU8 (bytes : List Byte) : Option (Option Nat × List Byte) :=
  match readFlag bytes with
  | some (true, r) => (readU8 r).map (fun q => (some q.1, q.2))
  | some (false, r) => some (none, r)
  | none => none
/-- Reads an optional four-byte number. -/
def readOptU32 (bytes : List Byte) : Option (Option Nat × List Byte) :=
  match readFlag bytes with
  | some (true, r) => (readU32 r).map (fun q => (some q.1, q.2))
  | some (false, r) => some (none, r)
  | none => none
/-- The body ends here: its length equals the length its fields need (R154). -/
def bodyEnd (i : Instr) : List Byte → Option Instr
  | [] => some i
  | _ :: _ => none

/-! ### The fifty requests (R156) -/

/-- A request's body read from its bytes, for the request of that code on that link with that tag; none where the code is
unknown or the body is not well formed (R154, R155). The enable of ZONE_SET (2) and of LINE_CONFIG (21) is read as a flag, and
the seconds of CONSENT_CONFIG (15) and of DUST_CONFIG (19) as a number of two bytes: R154 leaves both open (log 34). -/
def decodeRequest (lk : Link) (tag : Byte) (code : Nat) (body : List Byte) : Option Instr :=
  match code with
  | 1 => do
    let (x, b) ← readU32 body
    let (f, b) ← readU16 b
    let (o, b) ← readU8 b
    bodyEnd (.mooring tag x f o) b
  | 2 => do
    let (i, b) ← readU8 body
    let (e, b) ← readFlag b
    let (xl, b) ← readU32 b
    let (xh, b) ← readU32 b
    let (yl, b) ← readU16 b
    let (yh, b) ← readU16 b
    bodyEnd (.zoneSet tag i e xl xh yl yh) b
  | 3 => bodyEnd (.flush tag) body
  | 4 => do
    let (l, b) ← readU8 body
    let (h, b) ← readU8 b
    let (p, b) ← readU8 b
    bodyEnd (.move tag l h p) b
  | 5 => do
    let (l, b) ← readU8 body
    bodyEnd (.lower tag l) b
  | 6 => do
    let (l, b) ← readU8 body
    bodyEnd (.raise tag l) b
  | 7 => do
    let (l, b) ← readU8 body
    bodyEnd (.stop tag l) b
  | 8 => do
    let (l, b) ← readU8 body
    bodyEnd (.recover tag l) b
  | 9 => bodyEnd (.planAccept tag) body
  | 10 => bodyEnd (.planReturn tag) body
  | 11 => do
    let (i, b) ← readU8 body
    bodyEnd (.stepStart tag i) b
  | 12 => do
    let (i, b) ← readU8 body
    bodyEnd (.stepStop tag i) b
  | 13 => bodyEnd (.hold tag) body
  | 14 => bodyEnd (.resume tag) body
  | 15 => do
    let (w, b) ← readU16 body
    bodyEnd (.consentConfig tag w) b
  | 16 => do
    let (t, b) ← readU8 body
    bodyEnd (.divert tag t) b
  | 17 => bodyEnd (.feedReset tag) body
  | 18 => do
    let (e, b) ← readU8 body
    let (d, b) ← readU32 b
    let (l, b) ← readU16 b
    let (r, b) ← readU32 b
    let (a, b) ← readU16 b
    let (t, b) ← readU16 b
    bodyEnd (.beltConfig tag e d l r a t) b
  | 19 => do
    let (z, b) ← readU8 body
    let (w, b) ← readU16 b
    bodyEnd (.dustConfig tag z w) b
  | 20 => do
    let (z, b) ← readU8 body
    bodyEnd (.dustReset tag z) b
  | 21 => do
    let (l, b) ← readU8 body
    let (m, b) ← readU8 b
    let (e, b) ← readFlag b
    let (n, b) ← readU8 b
    bodyEnd (.lineConfig tag l m e n) b
  | 22 => bodyEnd (.lineLock tag) body
  | 23 => do
    let (l, b) ← readU8 body
    bodyEnd (.lineAck tag l) b
  | 24 => do
    let (h, b) ← readU8 body
    let (a, b) ← readU32 b
    let (f, b) ← readU32 b
    let (i, b) ← readU16 b
    let (o, b) ← readU16 b
    let (n, b) ← readU8 b
    let (ps, b) ← readPoints n b
    bodyEnd (.hatchDefine tag h a f i o ps) b
  | 25 => do
    let (h, b) ← readU8 body
    bodyEnd (.hatchDelete tag h) b
  | 26 => do
    let (h, b) ← readU8 body
    let (v, b) ← readI16 b
    bodyEnd (.level tag h v) b
  | 27 => do
    let (q, b) ← readOptU8 body
    let (h, b) ← readU8 b
    let (p, b) ← readU8 b
    let (l, b) ← readU8 b
    let (t, b) ← readU8 b
    let (g, b) ← readU32 b
    let (c, b) ← readFlag b
    bodyEnd (.stepInsert tag q h p l t g c) b
  | 28 => do
    let (i, b) ← readU8 body
    bodyEnd (.stepDelete tag i) b
  | 29 => do
    let (i, b) ← readU8 body
    let (f, b) ← readU8 b
    let (v, b) ← readU32 b
    bodyEnd (.stepAmend tag i f v) b
  | 30 => do
    let (i, b) ← readU8 body
    bodyEnd (.stepSkip tag i) b
  | 31 => bodyEnd (.planSubmit tag) body
  | 32 => bodyEnd (.planWithdraw tag) body
  | 33 => bodyEnd (.planClear tag) body
  | 34 => do
    let (i, b) ← readU8 body
    let (d, b) ← readU8 b
    bodyEnd (.consent tag i d) b
  | 35 => bodyEnd (.halt tag) body
  | 36 => bodyEnd (.release tag) body
  | 37 => do
    let (i, b) ← readU8 body
    bodyEnd (.endPour tag i) b
  | 38 => do
    let (q, b) ← readU8 body
    let (sp, b) ← readU32 b
    bodyEnd (.metrologySet tag q sp) b
  | 39 => bodyEnd (.metrologyLock tag) body
  | 40 => do
    let (l, b) ← readU8 body
    let (r, b) ← readByteList b
    let (o, b) ← readOptU32 b
    bodyEnd (.lotOpen tag l r o) b
  | 41 => do
    let (l, b) ← readU8 body
    bodyEnd (.lotClose tag l) b
  | 42 => bodyEnd (.bookClear tag) body
  | 43 => do
    let (h, b) ← readU8 body
    let (p, b) ← readU8 b
    bodyEnd (.probe lk tag h p) b
  | 44 => do
    let (r, b) ← readU8 body
    let (p, b) ← readU8 b
    bodyEnd (.bookRead lk tag r p) b
  | 45 => do
    let (p, b) ← readU8 body
    bodyEnd (.planRead lk tag p) b
  | 46 => do
    let (l, b) ← readU8 body
    bodyEnd (.loaderRead lk tag l) b
  | 47 => bodyEnd (.queueRead lk tag) body
  | 48 => do
    let (p, b) ← readU8 body
    bodyEnd (.status lk tag p) b
  | 49 => bodyEnd (.fetchEvents lk tag) body
  | 50 => do
    let (cs, b) ← readByteList body
    bodyEnd (.routeSet lk tag cs) b
  | _ => none

/-- The request code of a request (R156): 1 for MOORING to 50 for ROUTE_SET; none for an event. -/
def requestCode : Instr → Option Nat
  | .mooring .. => some 1 | .zoneSet .. => some 2 | .flush .. => some 3 | .move .. => some 4
  | .lower .. => some 5 | .raise .. => some 6 | .stop .. => some 7 | .recover .. => some 8
  | .planAccept .. => some 9 | .planReturn .. => some 10 | .stepStart .. => some 11 | .stepStop .. => some 12
  | .hold .. => some 13 | .resume .. => some 14 | .consentConfig .. => some 15 | .divert .. => some 16
  | .feedReset .. => some 17 | .beltConfig .. => some 18 | .dustConfig .. => some 19 | .dustReset .. => some 20
  | .lineConfig .. => some 21 | .lineLock .. => some 22 | .lineAck .. => some 23 | .hatchDefine .. => some 24
  | .hatchDelete .. => some 25 | .level .. => some 26 | .stepInsert .. => some 27 | .stepDelete .. => some 28
  | .stepAmend .. => some 29 | .stepSkip .. => some 30 | .planSubmit .. => some 31 | .planWithdraw .. => some 32
  | .planClear .. => some 33 | .consent .. => some 34 | .halt .. => some 35 | .release .. => some 36
  | .endPour .. => some 37 | .metrologySet .. => some 38 | .metrologyLock .. => some 39 | .lotOpen .. => some 40
  | .lotClose .. => some 41 | .bookClear .. => some 42 | .probe .. => some 43 | .bookRead .. => some 44
  | .planRead .. => some 45 | .loaderRead .. => some 46 | .queueRead .. => some 47 | .status .. => some 48
  | .fetchEvents .. => some 49 | .routeSet .. => some 50
  | _ => none

/-- The tag of a request; none for an event. -/
def requestTag : Instr → Option Byte
  | .mooring t _ _ _ => some t
  | .zoneSet t _ _ _ _ _ _ => some t
  | .flush t => some t
  | .move t _ _ _ => some t
  | .lower t _ => some t
  | .raise t _ => some t
  | .stop t _ => some t
  | .recover t _ => some t
  | .planAccept t => some t
  | .planReturn t => some t
  | .stepStart t _ => some t
  | .stepStop t _ => some t
  | .hold t => some t
  | .resume t => some t
  | .consentConfig t _ => some t
  | .divert t _ => some t
  | .feedReset t => some t
  | .beltConfig t _ _ _ _ _ _ => some t
  | .dustConfig t _ _ => some t
  | .dustReset t _ => some t
  | .lineConfig t _ _ _ _ => some t
  | .lineLock t => some t
  | .lineAck t _ => some t
  | .hatchDefine t _ _ _ _ _ _ => some t
  | .hatchDelete t _ => some t
  | .level t _ _ => some t
  | .stepInsert t _ _ _ _ _ _ _ => some t
  | .stepDelete t _ => some t
  | .stepAmend t _ _ _ => some t
  | .stepSkip t _ => some t
  | .planSubmit t => some t
  | .planWithdraw t => some t
  | .planClear t => some t
  | .consent t _ _ => some t
  | .halt t => some t
  | .release t => some t
  | .endPour t _ => some t
  | .metrologySet t _ _ => some t
  | .metrologyLock t => some t
  | .lotOpen t _ _ _ => some t
  | .lotClose t _ => some t
  | .bookClear t => some t
  | .probe _ t _ _ => some t
  | .bookRead _ t _ _ => some t
  | .planRead _ t _ => some t
  | .loaderRead _ t _ => some t
  | .queueRead _ t => some t
  | .status _ t _ => some t
  | .fetchEvents _ t => some t
  | .routeSet _ t _ => some t
  | _ => none

/-- The link that a request names, for the requests that more than one role may send; none for any other command. -/
def requestLink : Instr → Option Link
  | .probe k _ _ _ => some k
  | .bookRead k _ _ _ => some k
  | .planRead k _ _ => some k
  | .loaderRead k _ _ => some k
  | .queueRead k _ => some k
  | .status k _ _ => some k
  | .fetchEvents k _ => some k
  | .routeSet k _ _ => some k
  | _ => none

/-- The body of a request by the encoding of R154; empty for an event. -/
def encodeBody : Instr → List Byte
  | .mooring _ x f o => u32 x ++ u16 f ++ u8 o
  | .zoneSet _ i e xl xh yl yh => u8 i ++ flag e ++ u32 xl ++ u32 xh ++ u16 yl ++ u16 yh
  | .move _ l h p => u8 l ++ u8 h ++ u8 p
  | .lower _ l => u8 l
  | .raise _ l => u8 l
  | .stop _ l => u8 l
  | .recover _ l => u8 l
  | .stepStart _ i => u8 i
  | .stepStop _ i => u8 i
  | .consentConfig _ w => u16 w
  | .divert _ t => u8 t
  | .beltConfig _ e d l r a b => u8 e ++ u32 d ++ u16 l ++ u32 r ++ u16 a ++ u16 b
  | .dustConfig _ z w => u8 z ++ u16 w
  | .dustReset _ z => u8 z
  | .lineConfig _ l m e n => u8 l ++ u8 m ++ flag e ++ u8 n
  | .lineAck _ l => u8 l
  | .hatchDefine _ h a f i o ps =>
    u8 h ++ u32 a ++ u32 f ++ u16 i ++ u16 o ++ u8 ps.length ++ ps.flatMap (fun p => u8 p.along ++ u8 p.athwart)
  | .hatchDelete _ h => u8 h
  | .level _ h v => u8 h ++ i16 v
  | .stepInsert _ q h p l t g c =>
    optField u8 q ++ u8 h ++ u8 p ++ u8 l ++ u8 t ++ u32 g ++ flag c
  | .stepDelete _ i => u8 i
  | .stepAmend _ i f v => u8 i ++ u8 f ++ u32 v
  | .stepSkip _ i => u8 i
  | .consent _ i d => u8 i ++ u8 d
  | .endPour _ i => u8 i
  | .metrologySet _ q sp => u8 q ++ u32 sp
  | .lotOpen _ l r o => u8 l ++ byteList r ++ optField u32 o
  | .lotClose _ l => u8 l
  | .probe _ _ h p => u8 h ++ u8 p
  | .bookRead _ _ r p => u8 r ++ u8 p
  | .planRead _ _ p => u8 p
  | .loaderRead _ _ l => u8 l
  | .status _ _ p => u8 p
  | .routeSet _ _ cs => byteList cs
  | _ => []

/-- The roles entitled to the request of a code (R156): 23 for the terminal alone, 14 for the vessel alone, 5 for the
survey alone, PROBE for terminal and vessel, and the last seven for all three. -/
def entitled (lk : Link) (code : Nat) : Bool :=
  if 1 ≤ code ∧ code ≤ 23 then lk == .terminal
  else if 24 ≤ code ∧ code ≤ 37 then lk == .vessel
  else if 38 ≤ code ∧ code ≤ 42 then lk == .survey
  else if code = 43 then lk != .survey
  else decide (44 ≤ code ∧ code ≤ 50)

/-- The command that a word spells by the table's bits. The table gives no row any bits (log 27). -/
def decodeTableWord (_nbits _w : Nat) : Option Instr := none

end Sys2Proof
end

