-- ==== Sys2Proof/Machine/State.lean ====
section
/-! DEFINITION. Machine/State.lean: everything the spec gives the part, as plain data; the stop reasons; the state right
after reset. A piece of state the spec defines as a function of another (the pin of a loader record, the restriction
level of a zone, the queue condition, the role of a link) has one home and is read through a view (log 18). -/

namespace Sys2Proof.Machine

/-! ### One value for each link, loader and zone -/

/-- One value for each master link. -/
structure PerLink (α : Type) where
  terminal : α
  vessel : α
  survey : α
  deriving DecidableEq, Repr

/-- The value of one link. -/
def PerLink.get {α : Type} (p : PerLink α) : Link → α
  | .terminal => p.terminal
  | .vessel => p.vessel
  | .survey => p.survey

/-- The value of one link replaced. -/
def PerLink.set {α : Type} (p : PerLink α) (k : Link) (v : α) : PerLink α :=
  match k with
  | .terminal => ⟨v, p.vessel, p.survey⟩
  | .vessel => ⟨p.terminal, v, p.survey⟩
  | .survey => ⟨p.terminal, p.vessel, v⟩

/-- One value for each loader. -/
structure PerLoader (α : Type) where
  l1 : α
  l2 : α
  deriving DecidableEq, Repr

/-- The value of one loader. -/
def PerLoader.get {α : Type} (p : PerLoader α) : Loader → α
  | .l1 => p.l1
  | .l2 => p.l2

/-- The value of one loader replaced. -/
def PerLoader.set {α : Type} (p : PerLoader α) (k : Loader) (v : α) : PerLoader α :=
  match k with
  | .l1 => ⟨v, p.l2⟩
  | .l2 => ⟨p.l1, v⟩

/-- One value for each dust zone. -/
structure PerZone (α : Type) where
  z1 : α
  z2 : α
  z3 : α
  deriving DecidableEq, Repr

/-- The value of one zone. -/
def PerZone.get {α : Type} (p : PerZone α) : Zone → α
  | .z1 => p.z1
  | .z2 => p.z2
  | .z3 => p.z3

/-- The value of one zone replaced. -/
def PerZone.set {α : Type} (p : PerZone α) (k : Zone) (v : α) : PerZone α :=
  match k with
  | .z1 => ⟨v, p.z2, p.z3⟩
  | .z2 => ⟨p.z1, v, p.z3⟩
  | .z3 => ⟨p.z1, p.z2, v⟩

/-! ### The Pour Plan (R2, R3) -/

/-- The plan state (R2). -/
inductive PlanState where
  | empty | draft | submitted | accepted
  deriving DecidableEq, Repr

/-- The step state (R3). -/
inductive StepState where
  | pending | consentWait | feeding | suspended | cutoff | done | skipped
  deriving DecidableEq, Repr

/-- The run-out cause and the end cause (R2, R3). -/
inductive EndCause where
  | target | lotOrder | ended
  deriving DecidableEq, Repr

/-- The reasons of a suspension set, in the order R3 lists them. -/
inductive Reason where
  | terminal | vessel | dust | estop | belt | link | loader | queue | gate
  deriving DecidableEq, Repr

/-- A suspension set (R3): which of the nine reasons it holds. -/
structure ReasonSet where
  terminal : Bool
  vessel : Bool
  dust : Bool
  estop : Bool
  belt : Bool
  link : Bool
  loader : Bool
  queue : Bool
  gate : Bool
  deriving DecidableEq, Repr

/-- The empty suspension set. -/
def ReasonSet.none : ReasonSet := ⟨false, false, false, false, false, false, false, false, false⟩

/-- A step record (R3). -/
structure StepRecord where
  id : Nat
  hold : Nat
  point : Nat
  loader : Loader
  lot : Nat
  target : Nat
  consentRequired : Bool
  accepted : Bool
  state : StepState
  delivered : Nat
  suspension : ReasonSet
  endCause : Option EndCause
  lapseMark : Bool
  deriving DecidableEq, Repr

/-- The consent window record (R2): the step, the window number and the remaining time in ms. -/
structure ConsentWindow where
  step : Nat
  number : Nat
  remaining : Nat
  deriving DecidableEq, Repr

/-- The run-out record (R2): the step in CUTOFF, its cause and its mark. -/
structure RunOut where
  step : Nat
  cause : EndCause
  mark : Option Word
  deriving DecidableEq, Repr

/-- The plan record (R2). -/
structure Plan where
  state : PlanState
  steps : List StepRecord
  idCounter : Nat
  asked : List Nat
  tag : Option Nat
  window : Option ConsentWindow
  runOut : Option RunOut
  windowLength : Nat
  deriving DecidableEq, Repr

/-! ### The Hatch Map and the Window Cache (R28 to R38) -/

/-- A hold descriptor (R28). -/
structure HoldDescriptor where
  aft : Nat
  fore : Nat
  inner : Nat
  outer : Nat
  points : List PourPoint
  deriving DecidableEq, Repr

/-- A present level record (R31, R32): the level in mm, its age in whole seconds, and the milliseconds since the age last
rose (log 19). -/
structure LevelRecord where
  height : Int
  age : Nat
  subMs : Nat
  deriving DecidableEq, Repr

/-- Which way the moored ship points (R33). -/
inductive Orientation where
  | bowUpstream | bowDownstream
  deriving DecidableEq, Repr

/-- A present mooring record (R33). -/
structure Mooring where
  sternX : Nat
  fender : Nat
  orientation : Orientation
  deriving DecidableEq, Repr

/-- A keep-out zone (R34). -/
structure KeepOut where
  enabled : Bool
  xmin : Nat
  xmax : Nat
  ymin : Nat
  ymax : Nat
  deriving DecidableEq, Repr

/-- The Hatch Map: the Hatch Table and the level records of holds 1..12 (a hold's place in the list is its number less
one), the mooring record and the four keep-out zones. -/
structure Hatch where
  holds : List (Option HoldDescriptor)
  levels : List (Option LevelRecord)
  mooring : Option Mooring
  zones : List KeepOut
  deriving DecidableEq, Repr

/-- The key of a cache entry (R38). -/
structure Key where
  hold : Nat
  point : Nat
  deriving DecidableEq, Repr

/-- A position in berth coordinates, in mm. -/
structure Position where
  x : Nat
  y : Nat
  deriving DecidableEq, Repr

/-- An entry of the Window Cache (R38). -/
inductive CacheEntry where
  | invalid
  | valid (key : Key) (at_ : Position)
  | pinned (key : Key) (at_ : Position) (loader : Loader)
  | stale (key : Key) (at_ : Position) (loader : Loader)
  deriving DecidableEq, Repr

/-- The Window Cache (R38): eight entries and the replacement pointer. -/
structure Cache where
  entries : List CacheEntry
  pointer : Nat
  deriving DecidableEq, Repr

/-! ### The loaders (R49) -/

/-- The travel state (R49). -/
inductive TravelState where
  | unreported | idle | travel | aligned | lowering | lowered | raising | fault
  deriving DecidableEq, Repr

/-- The fault cause (R49). -/
inductive FaultCause where
  | travelTime | spoutTime | drift | driveLost | driveFault | estop | dust
  deriving DecidableEq, Repr

/-- A claim on the rail (R51): its bounds in mm, which may lie outside the rail. -/
structure Claim where
  lower : Int
  upper : Int
  deriving DecidableEq, Repr

/-- The last valid position report (R49, R52). -/
structure Report where
  x : Nat
  y : Nat
  status : DriveStatus
  deriving DecidableEq, Repr

/-- A loader record (R49). The pin is read from the Window Cache (log 18). A timer is present while it runs and holds the
remaining time in ms. -/
structure LoaderRecord where
  state : TravelState
  cause : Option FaultCause
  claim : Option Claim
  target : Option Position
  tipLimit : Option Int
  lastReport : Option Report
  reportAge : Nat
  alignCount : Nat
  travelTimer : Option Nat
  spoutTimer : Option Nat
  deriving DecidableEq, Repr

/-! ### The feed gate and the diverter (R68, R78) -/

/-- The gate demand (R68). -/
inductive GateDemand where
  | closed | trim | full
  deriving DecidableEq, Repr

/-- The gate state (R68). -/
inductive GateState where
  | opened | closing | closed | fault
  deriving DecidableEq, Repr

/-- The gate record (R68) with its two output lines (R72). -/
structure Gate where
  demand : GateDemand
  state : GateState
  timer : Option Nat
  fault : Bool
  agedMark : Option Nat
  openLine : Bool
  fullLine : Bool
  deriving DecidableEq, Repr

/-- The diverter state (R78). -/
inductive DiverterState where
  | atL1 | atL2 | atReturn | moving | unknown
  deriving DecidableEq, Repr

/-- A position of the flap (R78). -/
inductive FlapTarget where
  | l1 | l2 | chute
  deriving DecidableEq, Repr

/-- The diverter record with its three output lines (R78). -/
structure Diverter where
  state : DiverterState
  command : Option FlapTarget
  timer : Option Nat
  lapse : Bool
  toL1 : Bool
  toL2 : Bool
  toReturn : Bool
  deriving DecidableEq, Repr

/-! ### Weighing (R84 to R92, R102) -/

/-- The metrology record, retained (R84). -/
structure Metrology where
  quantum : Nat
  span : Nat
  locked : Bool
  deriving DecidableEq, Repr

/-- The belt configuration (R87). -/
structure BeltConfig where
  pitch : Nat
  transit : Nat
  length : Nat
  runOut : Nat
  tail : Nat
  band : Nat
  deriving DecidableEq, Repr

/-- A parcel record (R92). -/
structure Parcel where
  seq : Word
  tag : Option Nat
  lot : Option Nat
  mass : Nat
  launch : Word
  deriving DecidableEq, Repr

/-- The quantities of R102 for the tag step, as one evaluation finds them (R105, log 21). -/
structure Evaluation where
  onBelt : Nat
  committed : Nat
  stepRemaining : Int
  lotRemaining : Option Int
  effective : Int
  deriving DecidableEq, Repr

/-- The Weighing Unit's state. The head of the Transit Queue is the oldest parcel (R95). -/
structure Weigh where
  metrology : Metrology
  config : BeltConfig
  position : Word
  openParcel : Option Parcel
  queue : List Parcel
  seqCounter : Word
  trimFlag : Bool
  lastEval : Option Evaluation
  deriving DecidableEq, Repr

/-! ### The Bill Book (R107, R108, R115, R119) -/

/-- The accounts and the residue that lot records and the unassigned record share (R107, R108). A hold's place in the two
lists is its number less one. -/
structure Account where
  weighed : Nat
  delivered : List Nat
  offPlan : List Nat
  returned : Nat
  spill : Nat
  unresolved : Nat
  inTransit : Nat
  residue : Nat
  deriving DecidableEq, Repr

/-- The lot state (R107). -/
inductive LotState where
  | free | opened | closing | closed
  deriving DecidableEq, Repr

/-- The closing record (R115). -/
structure ClosingRecord where
  weighed : Nat
  deliveredSum : Nat
  delivered : List Nat
  offPlan : List Nat
  returned : Nat
  spill : Nat
  unresolved : Nat
  forfeited : Nat
  quantum : Nat
  span : Nat
  deriving DecidableEq, Repr

/-- A lot record (R107). The lot number is its place in the list plus one. -/
structure LotRecord where
  state : LotState
  reference : Option (List Nat)
  ordered : Option Nat
  account : Account
  closing : Option ClosingRecord
  deriving DecidableEq, Repr

/-- The restart kind (R119). -/
inductive RestartKind where
  | warmLine | warmPower | clearLine | clearBank
  deriving DecidableEq, Repr

/-- The Bill Book. `draws` is the MODEL's own: the number of bookings taken, which numbers the free values (log 9). -/
structure Book where
  lots : List LotRecord
  unassigned : Account
  restartKind : RestartKind
  draws : Nat
  deriving DecidableEq, Repr

/-! ### Dust (R123) -/

/-- The zone state (R123). -/
inductive ZoneState where
  | clear | warn | alarm | purge | lockout
  deriving DecidableEq, Repr

/-- The restriction levels, weakest first (R132). -/
inductive Restriction where
  | none | trim | stop
  deriving DecidableEq, Repr

/-- A zone record (R123). The restriction level is a view of the zone state (R132, log 18). The latch is in s, the timer
in ms. -/
structure ZoneRecord where
  state : ZoneState
  timer : Option Nat
  latch : Nat
  history : List Word
  deriving DecidableEq, Repr

/-! ### Field lines and drive ports (R138, R147, R148) -/

/-- The mode of a condition line (R138). -/
inductive LineMode where
  | high | low | rising | falling | both
  deriving DecidableEq, Repr

/-- A line record (R138). -/
structure LineRecord where
  mode : LineMode
  enabled : Bool
  exponent : Nat
  filtered : Bool
  runCount : Nat
  condition : Bool
  deriving DecidableEq, Repr

/-- The Field Unit's lines: sixteen line records and the line lock (R138). `raw` is the raw level of each line, high or not,
as its input last gave it (R138, R139, log 23). `sampled` is the MODEL's own: which lines have been sampled at the reading
that the time base shows, so that a reading samples a line once (R139, log 32). -/
structure FieldLines where
  records : List LineRecord
  locked : Bool
  raw : List Bool
  sampled : List Bool
  deriving DecidableEq, Repr

/-- A travel order (R146, R148). -/
inductive Order where
  | go (x y : Nat)
  | stop
  | lower (tip : Int)
  | raise
  deriving DecidableEq, Repr

/-- The receiver of a drive port (R147): hunting, or collecting with the bytes gathered after the sync byte (log 12). -/
inductive DriveReceiver where
  | hunting
  | collecting (gathered : List Byte)
  deriving DecidableEq, Repr

/-- A drive port (R147, R148): its receiver, its order queue, its order counter and the frame being sent. -/
structure DrivePort where
  receiver : DriveReceiver
  orders : List Order
  counter : Half
  sending : Option (Half × Order)
  deriving DecidableEq, Repr

/-! ### Events (R164) -/

/-- The source of an EQUIPMENT_FAULT (R164). -/
inductive FaultSource where
  | loader (l : Loader)
  | gate
  | diverter
  | queue
  deriving DecidableEq, Repr

/-- An event: its class with its detail (R164). -/
inductive Event where
  | dustWarn (z : Zone)
  | dustAlarm (z : Zone)
  | dustLockout (z : Zone)
  | dustClear (z : Zone)
  | stepState (step : Nat)
  | consentAsk (step : Nat)
  | consentLapse (step : Nat)
  | staleWindow (l : Loader)
  | offPlan (hold : Nat)
  | spill (record : Nat)
  | lotState (lot : Nat)
  | equipmentFault (source : FaultSource)
  | linkLost (lk : Link)
  | levelAged (hold : Nat)
  | metrologyAttempt
  | restart (kind : RestartKind)
  deriving DecidableEq, Repr

/-- What a notice record holds for a pending class: the latest occurrence and the occurrence count (R164). -/
structure PendingEntry where
  last : Event
  count : Nat
  deriving DecidableEq, Repr

/-- The notice record of a link (R164): sixteen places in code order. A class is pending when its place is present, so its
last detail is present exactly while it is pending. -/
structure NoticeRecord where
  pending : List (Option PendingEntry)
  routes : List Bool
  deriving DecidableEq, Repr

/-! ### Answers and frames of the master links (R150 to R163) -/

/-- The answer codes, in the order of their numbers (R159). -/
inductive AnswerCode where
  | done | denied | unknown | malformed | full | range | state | noRoom | held | occupied | noMooring | noHold
  | noPoint | reach | zone | noLevel | dust | locked | lot | metrology | tooLate | beltBusy
  deriving DecidableEq, Repr

/-- The probe record (R48). -/
structure ProbeRecord where
  outcome : AnswerCode
  at_ : Option (Int × Int)
  hit : Option Bool
  zone : Option Nat
  entry : Option Nat
  holder : Option Loader
  deriving DecidableEq, Repr

/-- The plan summary of PLAN_READ (R26). -/
structure PlanSummary where
  state : PlanState
  count : Nat
  idCounter : Nat
  windowLength : Nat
  current : Option Nat
  tag : Option Nat
  window : Option ConsentWindow
  runOut : Option RunOut
  deriving DecidableEq, Repr

/-- The pinned entry as LOADER_READ gives it (R67). -/
structure PinView where
  index : Nat
  key : Key
  at_ : Position
  stale : Bool
  deriving DecidableEq, Repr

/-- The answer of LOADER_READ (R67). -/
structure LoaderView where
  record : LoaderRecord
  pin : Option PinView
  level : Restriction
  spoutUp : Bool
  spoutDown : Bool
  estop : Bool
  deriving DecidableEq, Repr

/-- The open parcel as QUEUE_READ gives it (R105). -/
structure ParcelView where
  parcel : Parcel
  distance : Nat
  deriving DecidableEq, Repr

/-- The answer of QUEUE_READ (R105). -/
structure QueueView where
  position : Word
  count : Nat
  condition : Bool
  headDistance : Option Nat
  openParcel : Option ParcelView
  inTransit : List Nat
  unassigned : Nat
  deriving DecidableEq, Repr

/-- The SUMMARY part of BOOK_READ (R117). The lot's own fields are absent for record 0. -/
structure BookSummary where
  state : Option LotState
  reference : Option (List Nat)
  ordered : Option Nat
  weighed : Nat
  deliveredSum : Nat
  returned : Nat
  spill : Nat
  unresolved : Nat
  inTransit : Nat
  residue : Nat
  loaded : Nat
  balance : Option Int
  deriving DecidableEq, Repr

/-- Whether a break is in progress on a link (R150, R162). -/
inductive BreakState where
  | marking | broken
  deriving DecidableEq, Repr

/-- One link of the LINKS section (R163). The silence timer is present exactly while the link is UP. -/
structure LinkView where
  up : Bool
  silence : Option Nat
  requests : Nat
  frames : Nat
  brk : BreakState
  deriving DecidableEq, Repr

/-- One entry of the Window Cache as the HATCH section gives it (R163). -/
inductive EntryView where
  | invalid
  | valid (key : Key)
  | pinned (key : Key) (loader : Loader)
  | stale (key : Key) (loader : Loader)
  deriving DecidableEq, Repr

/-- One zone of the DUST section (R137): each history time with its age in s. -/
structure ZoneView where
  state : ZoneState
  level : Restriction
  timer : Option Nat
  latch : Nat
  history : List (Word × Nat)
  warn : Bool
  alarm : Bool
  deriving DecidableEq, Repr

/-- One line of the FIELD section (R149). -/
structure LineView where
  mode : LineMode
  enabled : Bool
  exponent : Nat
  filtered : Bool
  condition : Bool
  deriving DecidableEq, Repr

/-- The sections of STATUS (R163). -/
inductive StatusView where
  | links (fast : Bool) (role : Link) (links : PerLink LinkView)
  | hatch (mooring : Option Mooring) (zones : List KeepOut) (present : List Bool)
      (levels : List (Option (Int × Nat))) (pointer : Nat) (entries : List EntryView)
  | gate (demand : GateDemand) (state : GateState) (timer : Option Nat) (fault : Bool) (mark : Option Nat)
      (diverter : DiverterState) (command : Option FlapTarget) (moveTimer : Option Nat) (lapse : Bool)
      (conditions : List Bool) (trim : Bool)
  | weighing (metrology : Metrology) (config : BeltConfig) (position : Word) (seqCounter : Word)
      (tag : Option Nat) (trim : Bool) (condition : Bool) (count : Nat) (evaluation : Option Evaluation)
  | book (states : List LotState) (unassigned : Nat) (kind : RestartKind)
  | dust (zones : PerZone ZoneView) (ofL1 ofL2 : Restriction) (ofCurrent : Option Restriction)
  | field (lines : List LineView) (locked : Bool) (counter1 : Half) (orders1 : Nat) (counter2 : Half) (orders2 : Nat)
  deriving DecidableEq, Repr

/-- The answer record of a request: what its answer carries beside the code. -/
inductive AnswerRecord where
  | empty
  | counts (invalid stale : Nat)
  | count (n : Nat)
  | stepId (id : Nat)
  | entered (state : StepState)
  | granted (state : StepState) (reasons : ReasonSet)
  | reasons (set : ReasonSet)
  | clamp (clamped : Bool)
  | probe (record : ProbeRecord)
  | moved (target : Position) (entry : Nat)
  | claim (claim : Claim)
  | tipLimit (tip : Int)
  | diverter (state : DiverterState)
  | plan (summary : PlanSummary) (records : List StepRecord)
  | loader (view : LoaderView)
  | queue (view : QueueView)
  | closePending (pending : Bool)
  | bookSummary (summary : BookSummary)
  | bookHolds (delivered offPlan : List Nat)
  | bookClosing (closing : ClosingRecord)
  | bookNotClosed (state : LotState)
  | line (view : LineView)
  | wasAsserted (asserted : Bool)
  | events (pending : List PendingEntry)
  | routes (routes : List Bool)
  | status (view : StatusView)
  deriving DecidableEq, Repr

/-- A frame of an output queue (R159). `reserved` is the place reserved for the answer of the request being taken; no
reserved place stands between two steps. -/
inductive OutFrame where
  | answer (tag : Byte) (code : AnswerCode) (record : AnswerRecord)
  | refusal (tag : Byte) (code : AnswerCode) (requestCode : Byte)
  | notice (event : Event)
  | reserved (tag : Byte)
  deriving DecidableEq, Repr

/-- The receiver of a master link (R153): hunting, or collecting with the destuffed bytes of the partial frame, the marker
included, and whether the last byte was 0x7D (log 19). -/
inductive LinkReceiver where
  | hunting
  | collecting (collected : List Byte) (escaped : Bool)
  deriving DecidableEq, Repr

/-- A link record (R150). The silence timer is present exactly while the link is UP (its value is the ms since the last
valid frame). `heardSinceReset` is whether the link has been UP since the last reset (R169, log 19). -/
structure LinkRecord where
  up : Bool
  silence : Option Nat
  receiver : LinkReceiver
  requests : List Instr
  output : List OutFrame
  brk : BreakState
  heardSinceReset : Bool
  deriving DecidableEq, Repr

/-! ### The whole part -/

/-- The state of the part. `pending` is the queue of commands waiting, first in, first out. -/
structure State where
  pending : List Instr
  mainSupply : Bool
  bankHeld : Bool
  timeBase : Word
  fastRate : Bool
  plan : Plan
  hatch : Hatch
  cache : Cache
  loaders : PerLoader LoaderRecord
  gate : Gate
  diverter : Diverter
  weigh : Weigh
  book : Book
  dust : PerZone ZoneRecord
  lines : FieldLines
  ports : PerLoader DrivePort
  links : PerLink LinkRecord
  notices : PerLink NoticeRecord
  deriving DecidableEq, Repr

/-- Why the machine stops with a fault. Both reasons are met only in states that no run from reset reaches. -/
inductive Fault where
  /-- Raised by MOVE and PROBE: a lookup that missed finds no INVALID and no VALID entry to allocate. R40 says the scan
  always finds one, because at most two entries are pinned (R42). Safe: the model stops (log 17). -/
  | noVictim
  /-- Raised by MOVE, STOP and RECOVER: the loader is in a state that only a position report leads to, but has no last
  report (R49, R53). Safe: the model stops (log 17). -/
  | noReport
  deriving DecidableEq, Repr

/-- Why a command is refused. -/
inductive Refusal where
  /-- Raised by exec's arm of a command that has no meaning yet. Safe: nothing is said of the command. -/
  | notModelled (mnemonic : String)
  deriving DecidableEq, Repr

/-- Accounts at zero (R107, R108). -/
def Account.zero : Account := ⟨0, List.replicate 12 0, List.replicate 12 0, 0, 0, 0, 0, 0⟩

/-- The part right after reset: a retained clear made by a power-on with the bank not valid, the sixteen lines low and the
rate strap open at that moment (log 1). Every other value is the one the spec states for retained clear; the report age
before the first report is the model's choice (log 2). -/
def State.reset : State where
  pending := []
  mainSupply := true
  bankHeld := true
  timeBase := 0
  fastRate := false
  plan := ⟨.empty, [], 1, [], none, none, none, 60⟩
  hatch := ⟨List.replicate 12 none, List.replicate 12 none, none, List.replicate 4 ⟨false, 0, 0, 0, 0⟩⟩
  cache := ⟨List.replicate 8 .invalid, 0⟩
  loaders :=
    ⟨⟨.unreported, none, none, none, none, none, 0, 0, none, none⟩,
      ⟨.unreported, none, none, none, none, none, 0, 0, none, none⟩⟩
  gate := ⟨.closed, .closing, some 10000, false, none, false, false⟩
  diverter := ⟨.moving, none, some 20000, false, false, false, false⟩
  weigh :=
    ⟨⟨10, 1000000, false⟩, ⟨10, 60000, 1000, 20000, 1500, 5000⟩, 0, none, [], 0, false, none⟩
  book := ⟨List.replicate 8 ⟨.free, none, none, Account.zero, none⟩, Account.zero, .clearBank, 0⟩
  dust :=
    ⟨⟨.purge, some 120000, 120, []⟩, ⟨.purge, some 120000, 120, []⟩, ⟨.purge, some 120000, 120, []⟩⟩
  lines := ⟨List.replicate 16 ⟨.high, true, 3, false, 0, false⟩, false, List.replicate 16 false, List.replicate 16 true⟩
  ports := ⟨⟨.hunting, [], 0, none⟩, ⟨.hunting, [], 0, none⟩⟩
  links :=
    ⟨⟨false, none, .hunting, [], [], .marking, false⟩, ⟨false, none, .hunting, [], [], .marking, false⟩,
      ⟨false, none, .hunting, [], [], .marking, false⟩⟩
  notices :=
    ⟨⟨List.replicate 15 none ++ [some ⟨.restart .clearBank, 1⟩], List.replicate 16 true⟩,
      ⟨List.replicate 15 none ++ [some ⟨.restart .clearBank, 1⟩],
        [false, true, true, false, true, true, true, true, true, false, false, false, false, true, false, true]⟩,
      ⟨List.replicate 15 none ++ [some ⟨.restart .clearBank, 1⟩],
        [false, false, false, false, false, false, false, false, true, true, true, false, false, false, true, true]⟩⟩

end Sys2Proof.Machine
end

