-- ==== Sys2Proof/Machine/Operands.lean ====
section
/-! DEFINITION. Machine/Operands.lean: the operand forms of the commands: enumerations numbered from 0 in the order the
describing rule lists them (R154), loader and zone numbers, and the ranges the owning blocks check. -/

namespace Sys2Proof.Machine

/-- A loader number, 1 or 2 (00 Numbering). -/
def loaderOf : Nat → Option Loader
  | 1 => some .l1
  | 2 => some .l2
  | _ => none

/-- The other loader. -/
def otherLoader : Loader → Loader
  | .l1 => .l2
  | .l2 => .l1

/-- The enumeration Z1, Z2, Z3 (R129, R154). -/
def zoneOf : Nat → Option Zone
  | 0 => some .z1
  | 1 => some .z2
  | 2 => some .z3
  | _ => none

/-- DIVERT's target: 0 for L1, 1 for L2, 2 for RETURN (R81, R154). -/
def targetOf : Nat → Option FlapTarget
  | 0 => some .l1
  | 1 => some .l2
  | 2 => some .chute
  | _ => none

/-- MOORING's orientation, BOW_UPSTREAM or BOW_DOWNSTREAM (R33, R154). -/
def orientationOf : Nat → Option Orientation
  | 0 => some .bowUpstream
  | 1 => some .bowDownstream
  | _ => none

/-- LINE_CONFIG's mode, in the order of R138. -/
def modeOf : Nat → Option LineMode
  | 0 => some .high
  | 1 => some .low
  | 2 => some .rising
  | 3 => some .falling
  | 4 => some .both
  | _ => none

/-- CONSENT's decision: true for GRANT, false for REFUSE, in the order of R16. -/
def decisionOf : Nat → Option Bool
  | 0 => some true
  | 1 => some false
  | _ => none

/-- The fields STEP_AMEND may name, in the order of R8. -/
inductive AmendField where
  | hold | point | loader | lot | target | consent
  deriving DecidableEq, Repr

/-- STEP_AMEND's field (R8, R154). -/
def amendFieldOf : Nat → Option AmendField
  | 0 => some .hold
  | 1 => some .point
  | 2 => some .loader
  | 3 => some .lot
  | 4 => some .target
  | 5 => some .consent
  | _ => none

/-- The parts BOOK_READ may name, in the order of R117. -/
inductive BookPart where
  | summary | holds | closing
  deriving DecidableEq, Repr

/-- BOOK_READ's part (R117, R154). -/
def bookPartOf : Nat → Option BookPart
  | 0 => some .summary
  | 1 => some .holds
  | 2 => some .closing
  | _ => none

/-- The sections STATUS may name, in the order of R163. -/
inductive StatusPart where
  | links | hatch | gate | weighing | book | dust | field
  deriving DecidableEq, Repr

/-- STATUS's section (R163, R154). -/
def statusPartOf : Nat → Option StatusPart
  | 0 => some .links
  | 1 => some .hatch
  | 2 => some .gate
  | 3 => some .weighing
  | 4 => some .book
  | 5 => some .dust
  | 6 => some .field
  | _ => none

/-! ### Ranges -/

/-- lo ≤ n ≤ hi. -/
def inRange (n lo hi : Nat) : Bool := decide (lo ≤ n ∧ n ≤ hi)

/-- A hold number (00 Numbering). -/
def holdOk (h : Nat) : Bool := inRange h 1 12
/-- A pour point number (00 Numbering). -/
def pointOk (p : Nat) : Bool := decide (p ≤ 7)
/-- A loader number (00 Numbering). -/
def loaderOk (l : Nat) : Bool := inRange l 1 2
/-- A lot number (00 Numbering). -/
def lotOk (l : Nat) : Bool := inRange l 1 8
/-- A step's target, in kg (R3). -/
def targetOk (t : Nat) : Bool := inRange t 100 20000000
/-- A value of a step record's field (R3, R8). -/
def amendValueOk : AmendField → Nat → Bool
  | .hold, v => holdOk v
  | .point, v => pointOk v
  | .loader, v => loaderOk v
  | .lot, v => lotOk v
  | .target, v => targetOk v
  | .consent, v => decide (v ≤ 1)
/-- A coaming level, in mm (R31). -/
def heightOk (v : Int) : Bool := decide (-5000 ≤ v ∧ v ≤ 20000)
/-- Check 3 of HATCH_DEFINE: edges and limits (R28, R29). -/
def edgesOk (aft fore inner outer : Nat) : Bool :=
  decide (aft ≤ 300000 ∧ fore ≤ 300000 ∧ aft + 2000 ≤ fore ∧
    inner ≤ 40000 ∧ outer ≤ 40000 ∧ inner + 2000 ≤ outer)
/-- Check 4 of HATCH_DEFINE: the percentages (R28, R29). -/
def pointsOk (ps : List PourPoint) : Bool :=
  ps.all fun p => inRange p.along 10 90 && inRange p.athwart 10 90
/-- The bounds of a keep-out zone (R34). -/
def boundsOk (xmin xmax ymin ymax : Nat) : Bool :=
  decide (xmin ≤ 250000 ∧ xmax ≤ 250000 ∧ ymin ≤ 30000 ∧ ymax ≤ 30000 ∧ xmin ≤ xmax ∧ ymin ≤ ymax)
/-- The six fields of BELT_CONFIG, each in its range (R87). -/
def beltFieldsOk (c : BeltConfig) : Bool :=
  inRange c.pitch 1 100 && inRange c.transit 5000 400000 && inRange c.length 250 2000
    && inRange c.runOut 1000 100000 && decide (c.tail ≤ 20000) && decide (c.band ≤ 50000)
/-- An increment quantum, in kg (R84). -/
def quantumOk (q : Nat) : Bool := [1, 2, 5, 10, 20, 50].contains q
/-- A span, in ppm (R84). -/
def spanOk (s : Nat) : Bool := inRange s 900000 1100000
/-- A shipper reference (R107). -/
def referenceOk (r : List Nat) : Bool := inRange r.length 1 16 && r.all fun c => inRange c 32 126
/-- An ordered quantity, in kg, when given (R107). -/
def orderedOk : Option Nat → Bool
  | none => true
  | some n => inRange n 1 50000000
/-- A set of event class codes: each 0..15 and none twice (R168). -/
def codesOk (cs : List Nat) : Bool := cs.all (fun c => decide (c ≤ 15)) && decide cs.Nodup

end Sys2Proof.Machine
end

