-- ==== Sys2Proof/Machine/Flags.lean ====
section
/-! DEFINITION. Machine/Flags.lean: every condition, level and term that rules compute from the state: the conditions of
the lines by meaning, pins, restriction levels, the terms of the gate demand, the quantities of the cut-off, the closing
conditions, the due times. Nothing here changes the state. -/

namespace Sys2Proof.Machine

/-! ### Numbered places -/

/-- The element with number n, counted from 1. -/
def slot? {α : Type} (l : List α) (n : Nat) : Option α := if n = 0 then none else l[n - 1]?
/-- The element with number n, counted from 1, replaced. -/
def setSlot {α : Type} (l : List α) (n : Nat) (v : α) : List α := if n = 0 then l else l.set (n - 1) v
/-- The descriptor of a present hold (R28). -/
def State.descriptor? (s : State) (h : Nat) : Option HoldDescriptor := (slot? s.hatch.holds h).join
/-- The level record of a hold whose level is present (R31). -/
def State.level? (s : State) (h : Nat) : Option LevelRecord := (slot? s.hatch.levels h).join
/-- The lot record of a lot (R107). -/
def State.lot? (s : State) (n : Nat) : Option LotRecord := slot? s.book.lots n

/-! ### Condition lines by meaning (R138) -/

/-- The record of a line (R138). -/
def State.line (s : State) (i : Nat) : LineRecord :=
  (s.lines.records[i]?).getD ⟨.high, false, 0, false, 0, false⟩
/-- The condition of a line (R138). -/
def State.cond (s : State) (i : Nat) : Bool := (s.line i).condition
/-- The raw level of a line: whether it is high (R138). -/
def State.rawHigh (s : State) (i : Nat) : Bool := (s.lines.raw[i]?).getD false
/-- A line is to be sampled now: the reading of the time base is a whole multiple of 2^n ms, n the line's debounce exponent,
and the line has not been sampled at this reading (R139). -/
def State.sampling (s : State) (i : Nat) : Bool :=
  s.timeBase.toNat % 2 ^ (s.line i).exponent == 0 && !(s.lines.sampled[i]?).getD false
/-- The line of a loader's spout-up condition: 0 for L1, 4 for L2 (R49). -/
def spoutUpLine : Loader → Nat
  | .l1 => 0
  | .l2 => 4
/-- The line of a loader's spout-down condition: 1 for L1, 5 for L2 (R49). -/
def spoutDownLine : Loader → Nat
  | .l1 => 1
  | .l2 => 5
/-- The line of a zone's warn condition (R123). -/
def warnLine : Zone → Nat
  | .z1 => 2
  | .z2 => 6
  | .z3 => 8
/-- The line of a zone's alarm condition (R123). -/
def alarmLine : Zone → Nat
  | .z1 => 3
  | .z2 => 7
  | .z3 => 9
/-- The spout-up condition of a loader. -/
def State.spoutUp (s : State) (l : Loader) : Bool := s.cond (spoutUpLine l)
/-- The spout-down condition of a loader. -/
def State.spoutDown (s : State) (l : Loader) : Bool := s.cond (spoutDownLine l)
/-- The warn condition of a zone. -/
def State.warns (s : State) (z : Zone) : Bool := s.cond (warnLine z)
/-- The alarm condition of a zone. -/
def State.alarms (s : State) (z : Zone) : Bool := s.cond (alarmLine z)
/-- The belt-run condition, line 13. -/
def State.beltRuns (s : State) : Bool := s.cond 13
/-- The emergency-stop condition, line 14. -/
def State.estop (s : State) : Bool := s.cond 14
/-- The gate-closed condition, line 15. -/
def State.gateShut (s : State) : Bool := s.cond 15

/-! ### Suspension sets (R3, R19) -/

/-- Whether a set holds a reason. -/
def ReasonSet.has (r : ReasonSet) : Reason → Bool
  | .terminal => r.terminal
  | .vessel => r.vessel
  | .dust => r.dust
  | .estop => r.estop
  | .belt => r.belt
  | .link => r.link
  | .loader => r.loader
  | .queue => r.queue
  | .gate => r.gate
/-- A set with one reason's presence given. -/
def ReasonSet.put (r : ReasonSet) (x : Reason) (present : Bool) : ReasonSet :=
  match x with
  | .terminal => { r with terminal := present }
  | .vessel => { r with vessel := present }
  | .dust => { r with dust := present }
  | .estop => { r with estop := present }
  | .belt => { r with belt := present }
  | .link => { r with link := present }
  | .loader => { r with loader := present }
  | .queue => { r with queue := present }
  | .gate => { r with gate := present }

/-! ### Steps (R2, R3) -/

/-- The step record with an id (R4: at most one). -/
def State.step? (s : State) (id : Nat) : Option StepRecord := s.plan.steps.find? fun st => st.id == id
/-- The step is the current step: in CONSENT_WAIT, FEEDING or SUSPENDED (R2). -/
def StepRecord.isCurrent (st : StepRecord) : Bool :=
  st.state == .consentWait || st.state == .feeding || st.state == .suspended
/-- The step is FEEDING or SUSPENDED. -/
def StepRecord.isRunning (st : StepRecord) : Bool := st.state == .feeding || st.state == .suspended
/-- The step keeps its lot from closing: CONSENT_WAIT, FEEDING, SUSPENDED or CUTOFF (R114). -/
def StepRecord.isLive (st : StepRecord) : Bool := st.isCurrent || st.state == .cutoff
/-- The current step (R2). -/
def State.current? (s : State) : Option StepRecord := s.plan.steps.find? (·.isCurrent)
/-- The current step when it is FEEDING or SUSPENDED: the step whose suspension set changes (R19). -/
def State.running? (s : State) : Option StepRecord := s.plan.steps.find? (·.isRunning)
/-- The step in FEEDING (R69). -/
def State.feeding? (s : State) : Option StepRecord := s.plan.steps.find? fun st => st.state == .feeding
/-- The record of the tag step (R2). -/
def State.tagStep? (s : State) : Option StepRecord := s.plan.tag.bind s.step?

/-! ### Pins (R42, R43) -/

/-- The pinning loader of an entry, PINNED or PINNED_STALE. -/
def CacheEntry.pinner? : CacheEntry → Option Loader
  | .pinned _ _ l => some l
  | .stale _ _ l => some l
  | _ => none
/-- The key of an entry that is not INVALID. -/
def CacheEntry.key? : CacheEntry → Option Key
  | .invalid => none
  | .valid k _ => some k
  | .pinned k _ _ => some k
  | .stale k _ _ => some k
/-- The position of an entry that is not INVALID. -/
def CacheEntry.position? : CacheEntry → Option Position
  | .invalid => none
  | .valid _ p => some p
  | .pinned _ p _ => some p
  | .stale _ p _ => some p
/-- The entry is PINNED_STALE. -/
def CacheEntry.isStale : CacheEntry → Bool
  | .stale _ _ _ => true
  | _ => false
/-- The pin of a loader record (R49): the index of the entry the loader pins. -/
def State.pin? (s : State) (l : Loader) : Option Nat :=
  s.cache.entries.findIdx? fun e => e.pinner? == some l
/-- The entry a loader pins. -/
def State.pinEntry? (s : State) (l : Loader) : Option CacheEntry :=
  s.cache.entries.find? fun e => e.pinner? == some l
/-- The key of the entry a loader pins. -/
def State.pinKey? (s : State) (l : Loader) : Option Key := (s.pinEntry? l).bind CacheEntry.key?
/-- A loader is pinned to a hold and pour point: PINNED and PINNED_STALE alike (R43). -/
def State.pinnedTo (s : State) (l : Loader) (h p : Nat) : Bool := s.pinKey? l == some ⟨h, p⟩

/-! ### Loaders and the diverter -/

/-- The record of a loader. -/
def State.loader (s : State) (l : Loader) : LoaderRecord := s.loaders.get l
/-- The loader is LOWERED. -/
def State.isLowered (s : State) (l : Loader) : Bool := (s.loader l).state == .lowered
/-- The diverter state at a loader (R69 term 3). -/
def atLoader : Loader → DiverterState
  | .l1 => .atL1
  | .l2 => .atL2
/-- The diverter is at a loader (R12 check 8, R69 term 3). -/
def State.diverterAt (s : State) (l : Loader) : Bool := s.diverter.state == atLoader l
/-- A step's loader is LOWERED, pinned to the step's hold and pour point, and the diverter is at it: what the LOADER
reason of R19 asks of a step. -/
def State.ready (s : State) (st : StepRecord) : Bool :=
  s.isLowered st.loader && s.pinnedTo st.loader st.hold st.point && s.diverterAt st.loader
/-- A change from `old` to `new` takes the step's loader out of LOWERED, loses its pin to the step's hold and pour point,
or takes the diverter from it (R19). -/
def losesLoader (old new : State) (st : StepRecord) : Bool :=
  (old.isLowered st.loader && !new.isLowered st.loader)
    || (old.pinnedTo st.loader st.hold st.point && !new.pinnedTo st.loader st.hold st.point)
    || (old.diverterAt st.loader && !new.diverterAt st.loader)
/-- The stationary claim centred on an X (R51). -/
def stationaryClaim (x : Nat) : Claim := ⟨(x : Int) - Config.claimMargin, (x : Int) + Config.claimMargin⟩
/-- The travel claim from a starting X to a target X (R51). -/
def travelClaim (a b : Nat) : Claim :=
  ⟨((min a b : Nat) : Int) - Config.claimMargin, ((max a b : Nat) : Int) + Config.claimMargin⟩
/-- The gap between a claim of L1 and a claim of L2 (R51). -/
def claimGapOf (c1 c2 : Claim) : Int := c2.lower - c1.upper
/-- A claim of loader l keeps the gap to the other loader's claim (R51). -/
def State.keepsGap (s : State) (l : Loader) (c : Claim) : Bool :=
  match l, (s.loader (otherLoader l)).claim with
  | _, none => true
  | .l1, some c2 => decide (Config.claimGap ≤ claimGapOf c c2)
  | .l2, some c1 => decide (Config.claimGap ≤ claimGapOf c1 c)
/-- Two coordinates differ by at most a tolerance (R55, R62). -/
def within (tol : Int) (a b : Nat) : Bool := decide ((a : Int) - b ≤ tol ∧ (b : Int) - a ≤ tol)

/-! ### The diverter state (R79) -/

/-- The diverter state of a flap position. -/
def FlapTarget.reached : FlapTarget → DiverterState
  | .l1 => .atL1
  | .l2 => .atL2
  | .chute => .atReturn
/-- How many of the conditions of lines 10, 11 and 12 are asserted. -/
def State.flapCount (s : State) : Nat := (s.cond 10).toNat + (s.cond 11).toNat + (s.cond 12).toNat
/-- The position of the one asserted condition, when exactly one is. -/
def State.flapAt? (s : State) : Option FlapTarget :=
  match s.cond 10, s.cond 11, s.cond 12 with
  | true, false, false => some .l1
  | false, true, false => some .l2
  | false, false, true => some .chute
  | _, _, _ => none
/-- The diverter state derived from the conditions, the flap command and the lapse flag: the six cases of R79. -/
def State.derivedDiverter (s : State) (command : Option FlapTarget) (lapse : Bool) : DiverterState :=
  if 2 ≤ s.flapCount then .unknown
  else if lapse then .unknown
  else
    match command, s.flapAt? with
    | some c, some p => if c = p then p.reached else .moving
    | none, some p => p.reached
    | _, none => .moving

/-! ### Dust (R132) -/

/-- The restriction level of a zone state (R132). -/
def ZoneState.level : ZoneState → Restriction
  | .clear => .none
  | .warn => .trim
  | .alarm => .stop
  | .purge => .stop
  | .lockout => .stop
/-- The stronger of two levels (R132). -/
def Restriction.stronger : Restriction → Restriction → Restriction
  | .stop, _ => .stop
  | _, .stop => .stop
  | .trim, _ => .trim
  | _, .trim => .trim
  | .none, .none => .none
/-- The restriction level of a zone. -/
def State.restriction (s : State) (z : Zone) : Restriction := (s.dust.get z).state.level
/-- The loader zone of a loader (R49). -/
def loaderZone : Loader → Zone
  | .l1 => .z1
  | .l2 => .z2
/-- The dust restriction of a step on a loader: the stronger of its loader zone's level and Z3's (R132). -/
def State.dustOf (s : State) (l : Loader) : Restriction :=
  (s.restriction (loaderZone l)).stronger (s.restriction .z3)

/-! ### Belt, queue and the gate demand (R69, R70, R89, R96) -/

/-- The distance since a belt position, modulo 2^32 (R89). -/
def State.distanceSince (s : State) (p : Word) : Nat := (s.weigh.position - p).toNat
/-- The queue condition (R96). -/
def State.queueStands (s : State) : Bool := decide (Config.queueLimit ≤ s.weigh.queue.length)
/-- The Transit Queue holds no parcel and the open parcel is absent. -/
def State.beltEmpty (s : State) : Bool := s.weigh.queue.isEmpty && s.weigh.openParcel.isNone
/-- The coaming level of a hold is aged (R70 term 3). -/
def State.aged (s : State) (h : Nat) : Bool :=
  match s.level? h with
  | some r => decide (Config.agedAfter < r.age)
  | none => false
/-- Terms 2 to 8 of R69 for a step in FEEDING. -/
def State.demandTerms (s : State) (st : StepRecord) : Bool :=
  s.ready st && s.dustOf st.loader != .stop && !s.queueStands && !s.gate.fault && !s.estop && s.beltRuns
/-- The terms of R70: the demand is TRIM rather than FULL. -/
def State.trimTerms (s : State) (st : StepRecord) : Bool :=
  s.weigh.trimFlag || s.dustOf st.loader == .trim || s.aged st.hold
/-- The gate demand as R69 and R70 form it from the state. -/
def State.demandNow (s : State) : GateDemand :=
  match s.feeding? with
  | none => .closed
  | some st => if s.demandTerms st then (if s.trimTerms st then .trim else .full) else .closed

/-! ### Cut-off and trim (R102) -/

/-- F: the mass of a step's grain still on the belt (R102). -/
def State.onBelt (s : State) (id : Nat) : Nat :=
  ((s.weigh.queue.filter fun p => p.tag == some id).map (·.mass)).sum
    + (match s.weigh.openParcel with
      | some p => if p.tag = some id then p.mass else 0
      | none => 0)
/-- The loaded mass of an account: the sum of its delivered values and its in-transit mass (R102). -/
def Account.loaded (a : Account) : Nat := a.delivered.sum + a.inTransit
/-- The ordered quantity less A less the loaded mass of a lot, when the lot has an ordered quantity (R12, R102). -/
def State.lotRemaining (s : State) (lot : Nat) : Option Int :=
  match s.lot? lot with
  | some r => r.ordered.map fun o => (o : Int) - (s.weigh.config.tail : Int) - (r.account.loaded : Int)
  | none => none
/-- The lesser of the two remainings when the lot remaining is computed (R102). -/
def effectiveOf (stepRem : Int) : Option Int → Int
  | some l => min stepRem l
  | none => stepRem
/-- The quantities of R102 for a step. -/
def State.evaluation (s : State) (st : StepRecord) : Evaluation :=
  let f := s.onBelt st.id
  let c := st.delivered + f
  let stepRem := (st.target : Int) - (s.weigh.config.tail : Int) - (c : Int)
  let lotRem := s.lotRemaining st.lot
  ⟨f, c, stepRem, lotRem, effectiveOf stepRem lotRem⟩
/-- The cause of a cut-off (R103): LOT_ORDER when the lot remaining is computed and is at most the step remaining. -/
def Evaluation.cause (e : Evaluation) : EndCause :=
  match e.lotRemaining with
  | some l => if l ≤ e.stepRemaining then .lotOrder else .target
  | none => .target
/-- Check 10 of STEP_START: the cut-off margin of a step whose C is 0 is positive (R12). -/
def State.marginOk (s : State) (st : StepRecord) : Bool :=
  decide (0 < (st.target : Int) - (s.weigh.config.tail : Int))
    && (match s.lotRemaining st.lot with
      | some l => decide (0 < l)
      | none => true)

/-! ### Run-out and closing (R24, R114) -/

/-- The three conditions of a run-out's end, for a run-out record with a mark (R24). -/
def State.runOutOver (s : State) (r : RunOut) : Bool :=
  (match r.mark with
    | some m => decide (s.weigh.config.runOut ≤ s.distanceSince m)
    | none => false)
    && s.weigh.queue.all (fun p => p.tag != some r.step)
    && (match s.weigh.openParcel with
      | some p => p.tag != some r.step
      | none => true)
/-- The closing conditions of a lot (R114). -/
def State.closingHolds (s : State) (lot : Nat) : Bool :=
  s.plan.steps.all (fun st => !(st.lot == lot && st.isLive))
    && (match s.lot? lot with
      | some r => r.account.inTransit == 0
      | none => true)
    && s.weigh.queue.all (fun p => p.lot != some lot)
    && (match s.weigh.openParcel with
      | some p => p.lot != some lot
      | none => true)

/-! ### Links (R159) -/

/-- The record of a link. -/
def State.link (s : State) (k : Link) : LinkRecord := s.links.get k
/-- The frame counts towards the six places of answers and notices: any frame but a link refusal (R159). -/
def OutFrame.isHeld : OutFrame → Bool
  | .refusal _ _ _ => false
  | _ => true
/-- An answer or a notice may be placed: fewer than 6 places hold answers and notices, and one of the 8 is free, reserved
places counted (R159). -/
def roomFor (out : List OutFrame) : Bool :=
  decide (out.countP (·.isHeld) < Config.maxHeld ∧ out.length < Config.maxFrames)
/-- The link's output queue has room for the answer of a request (R157, R159). -/
def State.hasRoom (s : State) (k : Link) : Bool := roomFor (s.link k).output

end Sys2Proof.Machine
end

