-- ==== Sys2Proof/Machine/Ops.lean ====
section
/-! DEFINITION. Machine/Ops.lean: the named updates of the state, the Notice Router's taking of an event (R165, R166), the
placing of travel orders (R148), link refusals and the taking of a request (R155, R157, R159). -/

namespace Sys2Proof.Machine

/-! ### Updates of one block's record -/

/-- The plan record replaced. -/
def State.withPlan (s : State) (p : Plan) : State := { s with plan := p }
/-- The Hatch Map replaced. -/
def State.withHatch (s : State) (h : Hatch) : State := { s with hatch := h }
/-- The Window Cache replaced. -/
def State.withCache (s : State) (c : Cache) : State := { s with cache := c }
/-- A loader record replaced. -/
def State.withLoader (s : State) (l : Loader) (r : LoaderRecord) : State :=
  { s with loaders := s.loaders.set l r }
/-- The gate record replaced. -/
def State.withGate (s : State) (g : Gate) : State := { s with gate := g }
/-- The diverter record replaced. -/
def State.withDiverter (s : State) (d : Diverter) : State := { s with diverter := d }
/-- The Weighing Unit's state replaced. -/
def State.withWeigh (s : State) (w : Weigh) : State := { s with weigh := w }
/-- The Bill Book replaced. -/
def State.withBook (s : State) (b : Book) : State := { s with book := b }
/-- A zone record replaced. -/
def State.withZone (s : State) (z : Zone) (r : ZoneRecord) : State := { s with dust := s.dust.set z r }
/-- The condition lines replaced. -/
def State.withLines (s : State) (l : FieldLines) : State := { s with lines := l }
/-- A drive port replaced. -/
def State.withPort (s : State) (l : Loader) (p : DrivePort) : State := { s with ports := s.ports.set l p }
/-- A link record replaced. -/
def State.withLink (s : State) (k : Link) (r : LinkRecord) : State := { s with links := s.links.set k r }
/-- A notice record replaced. -/
def State.withNotice (s : State) (k : Link) (n : NoticeRecord) : State :=
  { s with notices := s.notices.set k n }
/-- The part with its main supply on runs the command; without it the command has no effect (log 15). -/
def State.powered (s : State) (act : State → Host.Outcome State Fault Refusal) : Host.Outcome State Fault Refusal :=
  if s.mainSupply then act s else .next s

/-! ### Events and notices (R164 to R166) -/

/-- The code of an event's class (R164). -/
def Event.code : Event → Nat
  | .dustWarn _ => 0
  | .dustAlarm _ => 1
  | .dustLockout _ => 2
  | .dustClear _ => 3
  | .stepState _ => 4
  | .consentAsk _ => 5
  | .consentLapse _ => 6
  | .staleWindow _ => 7
  | .offPlan _ => 8
  | .spill _ => 9
  | .lotState _ => 10
  | .equipmentFault _ => 11
  | .linkLost _ => 12
  | .levelAged _ => 13
  | .metrologyAttempt => 14
  | .restart _ => 15
/-- The entry of a pending class; none when the class is not pending. -/
def NoticeRecord.entry? (n : NoticeRecord) (code : Nat) : Option PendingEntry := (n.pending[code]?).join
/-- The class is in the route set. -/
def NoticeRecord.routed (n : NoticeRecord) (code : Nat) : Bool := (n.routes[code]?).getD false
/-- A class's entry replaced. -/
def NoticeRecord.mark (n : NoticeRecord) (code : Nat) (e : PendingEntry) : NoticeRecord :=
  { n with pending := n.pending.set code (some e) }
/-- The notice record of a link. -/
def State.notice (s : State) (k : Link) : NoticeRecord := s.notices.get k

/-- A frame placed at the tail of a link's output queue. -/
def State.placeFrame (s : State) (k : Link) (f : OutFrame) : State :=
  s.withLink k { s.link k with output := (s.link k).output ++ [f] }
/-- A notice placed when the output queue has a place for it, and not sent otherwise (R166). -/
def State.placeNotice (s : State) (k : Link) (e : Event) : State :=
  if s.hasRoom k then s.placeFrame k (.notice e) else s
/-- An event taken for one notice record (R165). -/
def State.raiseOn (s : State) (k : Link) (e : Event) : State :=
  match (s.notice k).entry? e.code with
  | some p =>
    s.withNotice k ((s.notice k).mark e.code ⟨e, min Config.maxOccurrences (p.count + 1)⟩)
  | none =>
    (if (s.notice k).routed e.code && (s.link k).up then s.placeNotice k e else s).withNotice k
      ((s.notice k).mark e.code ⟨e, 1⟩)
/-- An event raised: taken for each of the three notice records (R165). -/
def State.raise (s : State) (e : Event) : State :=
  ((s.raiseOn .terminal e).raiseOn .vessel e).raiseOn .survey e

/-! ### Travel orders (R148) -/

/-- The port of a loader. -/
def State.port (s : State) (l : Loader) : DrivePort := s.ports.get l
/-- A port that is not sending takes the order at the head of its queue, numbers it and sends it. -/
def DrivePort.start (p : DrivePort) : DrivePort :=
  match p.sending, p.orders with
  | none, o :: rest => { p with orders := rest, counter := p.counter + 1, sending := some (p.counter, o) }
  | _, _ => p
/-- An order placed in the queue: a STOP removes every waiting order; another kind issued while four wait removes the
oldest. -/
def DrivePort.place (p : DrivePort) (o : Order) : DrivePort :=
  match o with
  | .stop => { p with orders := [.stop] }
  | _ =>
    { p with orders := (if Config.maxOrders ≤ p.orders.length then p.orders.tail else p.orders) ++ [o] }
/-- A travel order issued on a loader's drive port. -/
def State.issue (s : State) (l : Loader) (o : Order) : State := s.withPort l (((s.port l).place o).start)

/-! ### Link refusals (R155, R159) -/

/-- A link refusal placed while fewer than 8 places are occupied, and lost otherwise. -/
def State.refuse (s : State) (k : Link) (tag : Byte) (code : AnswerCode) (request : Byte) : State :=
  if (s.link k).output.length < Config.maxFrames then s.placeFrame k (.refusal tag code request) else s

/-- A request that has passed the first four checks of R155 joins the tail of its link's request queue, or is answered
FULL. -/
def State.joinQueue (s : State) (k : Link) (tag : Byte) (i : Instr) : State :=
  if (s.link k).requests.length < Config.maxRequests then
    s.withLink k { s.link k with requests := (s.link k).requests ++ [i] }
  else s.refuse k tag .full (BitVec.ofNat 8 ((requestCode i).getD 0))

/-! ### The taking of a request (R157 to R159) -/

/-- What an owning block gives for a request: the answer's code and record, the state after the request, and, only in
states no run reaches, the fault that stops the machine (log 17). -/
structure Reply where
  code : AnswerCode
  record : AnswerRecord
  state : State
  stop : Option Fault

/-- The request is accepted: DONE with an answer record. -/
def Reply.done (record : AnswerRecord) (s : State) : Reply := ⟨.done, record, s, none⟩
/-- The request is refused with a code; the answer carries no record. -/
def Reply.refused (code : AnswerCode) (s : State) : Reply := ⟨code, .empty, s, none⟩
/-- The machine stops. -/
def Reply.halted (f : Fault) (s : State) : Reply := ⟨.done, .empty, s, some f⟩

/-- The first reserved place of an output queue takes the answer. -/
def fillReserved (f : OutFrame) : List OutFrame → List OutFrame
  | [] => []
  | .reserved _ :: rest => f :: rest
  | g :: rest => g :: fillReserved f rest
/-- The answer formed at the end of the taking fills the place reserved for it (R159, log 8). -/
def State.fill (s : State) (k : Link) (f : OutFrame) : State :=
  s.withLink k { s.link k with output := fillReserved f (s.link k).output }
/-- The request leaves the head of its link's request queue. -/
def State.popRequest (s : State) (k : Link) : State :=
  s.withLink k { s.link k with requests := (s.link k).requests.tail }
/-- A request taken as a whole: a place for the answer is reserved, the owning block acts, and its answer fills the
place. -/
def runRequest (k : Link) (tag : Byte) (act : State → Reply) (s : State) : Host.Outcome State Fault Refusal :=
  let r := act (s.placeFrame k (.reserved tag))
  match r.stop with
  | some f => .fault f
  | none => .next (r.state.fill k (.answer tag r.code r.record))
/-- The command of a request (log 3). At the head of its link's request queue it is taken when the output queue has room
for its answer, and waits otherwise. Any other request is one that has just passed the first four checks of R155: it is
taken at once when the request queue is empty and there is room, and joins the queue otherwise. -/
def takeRequest (k : Link) (tag : Byte) (i : Instr) (act : State → Reply) (s : State) :
    Host.Outcome State Fault Refusal :=
  s.powered fun s =>
    match (s.link k).requests with
    | [] => if s.hasRoom k then runRequest k tag act s else .next (s.joinQueue k tag i)
    | head :: _ =>
      if head = i then
        (if s.hasRoom k then runRequest k tag act (s.popRequest k) else .next s)
      else .next (s.joinQueue k tag i)

end Sys2Proof.Machine
end

