-- ==== Sys2Proof/Machine/Flow.lean ====
section
/-! DEFINITION. Machine/Flow.lean: the shared operations of the flow of grain: bookings, the closing of lots, changes of a
step's state, run-outs, the gate demand and gate state, the suspension set, cut-off and trim, parcels, and the entry of a
step to feeding. Each later block's operation is built over these. -/

namespace Sys2Proof.Machine

/-! ### Bookings (R110) -/

/-- A mass field's new value: the exact result of the booking when it lies in the field's range, and a free value of that
range otherwise (R107, log 9). -/
def fitMass (draw field : Nat) (exact : Int) : Nat :=
  if 0 ≤ exact ∧ exact ≤ (Config.maxMass : Int) then exact.toNat else (Config.freeMass draw field exact).val
/-- The in-transit mass less a parcel's mass. -/
def Account.depart (a : Account) (draw m : Nat) : Account :=
  { a with inTransit := fitMass draw 1 ((a.inTransit : Int) - (m : Int)) }
/-- The weighing booking: the residue gains `grain` kg·ppm and gives up the whole kilograms, which the weighed total and
the in-transit mass gain (R90, R91, R110). -/
def Account.weighIn (a : Account) (draw grain : Nat) : Account :=
  { a with
    residue := (a.residue + grain) % Config.ppm
    weighed := fitMass draw 0 ((a.weighed : Int) + ((a.residue + grain) / Config.ppm : Nat))
    inTransit := fitMass draw 1 ((a.inTransit : Int) + ((a.residue + grain) / Config.ppm : Nat)) }
/-- A hold's value of a list raised by a mass. -/
def raiseHold (draw field : Nat) (l : List Nat) (h m : Nat) : List Nat :=
  setSlot l h (fitMass draw field (((slot? l h).getD 0 : Nat) + (m : Int)))
/-- The delivery booking to a hold, on-plan or off-plan (R99, R110). -/
def Account.deliver (a : Account) (draw h m : Nat) (onPlan : Bool) : Account :=
  { a.depart draw m with
    delivered := raiseHold draw 2 a.delivered h m
    offPlan := if onPlan then a.offPlan else raiseHold draw 3 a.offPlan h m }
/-- The Return booking (R110). -/
def Account.giveBack (a : Account) (draw m : Nat) : Account :=
  { a.depart draw m with returned := fitMass draw 4 ((a.returned : Int) + (m : Int)) }
/-- The Spill booking (R110). -/
def Account.spillOut (a : Account) (draw m : Nat) : Account :=
  { a.depart draw m with spill := fitMass draw 5 ((a.spill : Int) + (m : Int)) }
/-- The resolution booking (R97, R110). -/
def Account.resolve (a : Account) (draw m : Nat) : Account :=
  { a.depart draw m with unresolved := fitMass draw 6 ((a.unresolved : Int) + (m : Int)) }
/-- The reset's transfer of the in-transit mass to Unresolved (R106, R120). -/
def Account.settle (a : Account) (draw : Nat) : Account :=
  { a with
    unresolved := fitMass draw 6 ((a.unresolved : Int) + (a.inTransit : Int))
    inTransit := 0 }
/-- A booking made on a lot's record, or on the unassigned record when the lot is none. -/
def State.bookOn (s : State) (lot : Option Nat) (f : Account → Nat → Account) : State :=
  match lot with
  | none =>
    s.withBook { s.book with unassigned := f s.book.unassigned s.book.draws, draws := s.book.draws + 1 }
  | some n =>
    match s.lot? n with
    | some r =>
      s.withBook
        { s.book with
          lots := setSlot s.book.lots n { r with account := f r.account s.book.draws }
          draws := s.book.draws + 1 }
    | none => s

/-! ### Closing a lot (R114, R115) -/

/-- The closing record formed from a lot's account and the metrology record (R115). -/
def closingOf (a : Account) (m : Metrology) : ClosingRecord :=
  ⟨a.weighed, a.delivered.sum, a.delivered, a.offPlan, a.returned, a.spill, a.unresolved, a.residue, m.quantum, m.span⟩
/-- A lot record as it stands in CLOSED: its closing record formed, its residue forfeited (R115). -/
def LotRecord.close (r : LotRecord) (m : Metrology) : LotRecord :=
  { r with
    state := .closed
    account := { r.account with residue := 0 }
    closing := some (closingOf r.account m) }
/-- A lot's entry to CLOSED (R115). -/
def State.closeLot (s : State) (n : Nat) : State :=
  match s.lot? n with
  | some r =>
    (s.withBook { s.book with lots := setSlot s.book.lots n (r.close s.weigh.metrology) }).raise (.lotState n)
  | none => s
/-- A lot in CLOSING whose closing conditions hold enters CLOSED (R114). -/
def State.closeIfDue (s : State) (n : Nat) : State :=
  match s.lot? n with
  | some r => if r.state = .closing ∧ s.closingHolds n = true then s.closeLot n else s
  | none => s
/-- The closing test of every lot (R114). R114 names no order among lots that come due at one test: they close, and raise
their LOT_STATE, in lot order, lot 1 first (log 7). -/
def State.closeLots (s : State) : State :=
  [1, 2, 3, 4, 5, 6, 7, 8].foldl State.closeIfDue s

/-! ### Steps (R3, R24) -/

/-- The record of a step changed, without an event: a change of P, of the suspension set or of a plan field. -/
def State.modifyStep (s : State) (id : Nat) (f : StepRecord → StepRecord) : State :=
  s.withPlan { s.plan with steps := s.plan.steps.map fun st => if st.id = id then f st else st }
/-- A step's state changed: STEP_STATE is raised (R3), and then the closing conditions are tested (R114), so that a LOT_STATE
of that test follows it: the spec orders the two nowhere (log 7). -/
def State.changeStep (s : State) (id : Nat) (f : StepRecord → StepRecord) : State :=
  ((s.modifyStep id f).raise (.stepState id)).closeLots
/-- The tag step becomes none: the trim flag is cleared (R104) and no evaluation stands. -/
def State.clearTag (s : State) : State :=
  (s.withPlan { s.plan with tag := none }).withWeigh { s.weigh with trimFlag := false, lastEval := none }
/-- A step as it stands in DONE with its end cause (R24). -/
def StepRecord.finish (st : StepRecord) (cause : EndCause) : StepRecord :=
  { st with state := .done, endCause := some cause }
/-- The tag step becomes none when it is the step that is DONE (R24). -/
def State.clearTagOf (s : State) (id : Nat) : State := if s.plan.tag = some id then s.clearTag else s
/-- The run-out record replaced. -/
def State.setRunOut (s : State) (r : Option RunOut) : State := s.withPlan { s.plan with runOut := r }
/-- The step of the run-out record goes to DONE with the run-out cause as its end cause, and the record is removed
(R24). The record describes a step in CUTOFF (R2); in any other state of that step nothing is done. -/
def State.finishRunOut (s : State) (r : RunOut) : State :=
  match s.step? r.step with
  | some st =>
    if st.state = .cutoff then
      ((s.setRunOut none).clearTagOf r.step).changeStep r.step fun q => q.finish r.cause
    else s
  | none => s
/-- The run-out test (R24). -/
def State.runOutTest (s : State) : State :=
  match s.plan.runOut with
  | some r => if s.runOutOver r then s.finishRunOut r else s
  | none => s
/-- The run-out mark is set at the first moment at which the gate-closed condition holds while the record is present
(R24, R73). -/
def State.markRunOut (s : State) : State :=
  match s.plan.runOut with
  | some r =>
    if r.mark = none ∧ s.gateShut = true then
      (s.setRunOut (some { r with mark := some s.weigh.position })).runOutTest
    else s
  | none => s

/-! ### The gate demand and the gate state (R69 to R73) -/

/-- The gate record after the demand has become `d` (R72, R73). -/
def Gate.demanded (g : Gate) (d : GateDemand) (shut : Bool) : Gate :=
  if d = g.demand then g
  else
    { g with
      demand := d
      openLine := d != .closed
      fullLine := d == .full
      state :=
        match d, g.state with
        | .closed, .opened => if shut then .closed else .closing
        | .closed, st => st
        | _, .closing => .opened
        | _, .closed => .opened
        | _, st => st
      timer :=
        match d, g.state with
        | .closed, .opened => if shut then none else some Config.closureTime
        | .closed, _ => g.timer
        | _, .closing => none
        | _, .closed => none
        | _, _ => g.timer }
/-- The gate record follows the demand that the state now gives. -/
def State.followDemand (s : State) : State := s.withGate (s.gate.demanded s.demandNow s.gateShut)
/-- The gate demand is formed again (R69). An entry of the gate to CLOSED is handed to the Pour Plan, which may set a
run-out mark (R73); a run-out completed by it is a change of step state, so the demand is formed again after it. -/
def State.formDemand (s : State) : State := s.followDemand.markRunOut.followDemand
/-- The test for LEVEL_AGED (R71). -/
def State.testAged (s : State) : State :=
  match s.feeding? with
  | some st =>
    if s.aged st.hold = true ∧ s.gate.agedMark ≠ some st.id then
      (s.raise (.levelAged st.hold)).withGate { s.gate with agedMark := some st.id }
    else s
  | none => s

/-! ### The suspension set (R19) -/

/-- A reason added to the current step while it is FEEDING or SUSPENDED. -/
def State.addReason (s : State) (r : Reason) : State :=
  match s.running? with
  | some st =>
    if st.state = .feeding then
      (s.changeStep st.id fun q => { q with state := .suspended, suspension := q.suspension.put r true }).formDemand
    else s.modifyStep st.id fun q => { q with suspension := q.suspension.put r true }
  | none => s
/-- A reason removed from the current step while it is FEEDING or SUSPENDED; the step's state stays. -/
def State.removeReason (s : State) (r : Reason) : State :=
  match s.running? with
  | some st => s.modifyStep st.id fun q => { q with suspension := q.suspension.put r false }
  | none => s
/-- The LOADER reason after a change of a loader's state or pin or of the diverter state, from `old` (R19, R66, R82). -/
def State.loaderReason (s old : State) : State :=
  match s.running? with
  | some st =>
    if losesLoader old s st then s.addReason .loader
    else if !old.ready st && s.ready st then s.removeReason .loader
    else s
  | none => s
/-- The DUST reason after a change of a zone's level, from `old` (R133). -/
def State.dustReason (s old : State) : State :=
  match s.running? with
  | some st =>
    if s.dustOf st.loader = .stop ∧ old.dustOf st.loader ≠ .stop then s.addReason .dust
    else if s.dustOf st.loader ≠ .stop ∧ old.dustOf st.loader = .stop then s.removeReason .dust
    else s
  | none => s

/-! ### Cut-off and trim (R23, R24, R103, R104) -/

/-- An older step that the run-out record describes goes to DONE before a step enters CUTOFF (R24). -/
def State.retireOlder (s : State) (id : Nat) : State :=
  match s.plan.runOut with
  | some r => if r.step = id then s else s.finishRunOut r
  | none => s
/-- The trim flag is cleared when the tag step enters CUTOFF (R104). -/
def State.clearTrimOf (s : State) (id : Nat) : State :=
  if s.plan.tag = some id then s.withWeigh { s.weigh with trimFlag := false } else s
/-- A step as it stands in CUTOFF: its suspension set emptied (R24). -/
def StepRecord.cutOff (st : StepRecord) : StepRecord :=
  { st with state := .cutoff, suspension := ReasonSet.none }
/-- A step enters CUTOFF with a run-out cause (R24): an older step in CUTOFF first goes to DONE; the set is emptied, the
run-out record is made, the trim flag of a tag step is cleared (R104), and a gate found closed sets the mark. -/
def State.enterCutoff (s : State) (id : Nat) (cause : EndCause) : State :=
  (((((s.retireOlder id).setRunOut (some ⟨id, cause, none⟩)).changeStep id StepRecord.cutOff).clearTrimOf
    id).markRunOut).formDemand
/-- A cut-off report for the tag step (R23). -/
def State.reportCutoff (s : State) (st : StepRecord) (cause : EndCause) : State :=
  if st.isRunning then s.enterCutoff st.id cause else s
/-- The trim flag after an evaluation that does not cut off (R104). -/
def trimAfter (flag running : Bool) (effective : Int) (band : Nat) : Bool :=
  if effective ≤ (band : Int) then flag || running else false
/-- The cut-off and trim evaluation (R103, R104). With no tag step it is not made. -/
def State.evaluate (s : State) : State :=
  match s.tagStep? with
  | none => s
  | some st =>
    let e := s.evaluation st
    let s1 := s.withWeigh { s.weigh with lastEval := some e }
    if e.effective ≤ 0 then (s1.reportCutoff st e.cause).formDemand
    else
      (s1.withWeigh
        { s1.weigh with trimFlag := trimAfter s.weigh.trimFlag st.isRunning e.effective s.weigh.config.band }).formDemand

/-! ### Parcels (R92 to R97) -/

/-- Whether a parcel may be merged into the newest queued parcel: the same tag and the same lot (R97). -/
def Parcel.sameAccount (p q : Parcel) : Bool := p.tag == q.tag && p.lot == q.lot
/-- The newest parcel of the queue gains a mass (R97). -/
def mergeNewest (m : Nat) : List Parcel → List Parcel
  | [] => []
  | [p] => [{ p with mass := p.mass + m }]
  | p :: rest => p :: mergeNewest m rest
/-- A closing parcel placed in the Transit Queue (R95, R96), or merged or resolved when the queue is full (R97). -/
def State.placeParcel (s : State) (p : Parcel) : State :=
  if s.weigh.queue.length < Config.maxParcels then
    let s1 := s.withWeigh { s.weigh with queue := s.weigh.queue ++ [p] }
    if !s.queueStands && s1.queueStands then (s1.addReason .queue).formDemand else s1
  else if (match s.weigh.queue.getLast? with
      | some q => q.sameAccount p
      | none => false) then
    s.withWeigh { s.weigh with queue := mergeNewest p.mass s.weigh.queue }
  else
    ((s.bookOn p.lot fun a n => a.resolve n p.mass).raise (.equipmentFault .queue)).evaluate
/-- The open parcel closes (R93, R94); the closing is handed to the run-out test and to the closing test of the lots
(R24, R114), in that order, which the model chooses (log 7). -/
def State.closeParcel (s : State) : State :=
  match s.weigh.openParcel with
  | none => s
  | some p =>
    ((((s.withWeigh { s.weigh with openParcel := none }).placeParcel p).runOutTest).closeLots).formDemand

/-! ### Entry to feeding (R13) -/

/-- The reasons that stand at a step's entry to feeding, with those that a grant found (R13, R16). -/
def State.entryReasons (s : State) (granted : ReasonSet) : ReasonSet :=
  { granted with
    estop := s.estop
    link := !(s.link .terminal).up
    queue := s.queueStands
    gate := s.gate.fault }
/-- A step enters feeding (R13): it becomes the tag step and the open parcel closes; it takes the reasons that stand and is
FEEDING with none and SUSPENDED with any; the evaluation follows, and the demand is formed. No rule orders the STEP_STATE of
the entry (R3) and its LEVEL_AGED (R71): STEP_STATE is raised first (log 7). LEVEL_AGED comes before the evaluation
(log 16). -/
def State.enterFeeding (s : State) (id : Nat) (granted : ReasonSet) : State :=
  let s1 := (s.withPlan { s.plan with tag := some id }).closeParcel
  let rs := s1.entryReasons granted
  let s2 :=
    s1.changeStep id fun st =>
      { st with state := if rs = ReasonSet.none then .feeding else .suspended, suspension := rs }
  (s2.testAged).evaluate.formDemand

end Sys2Proof.Machine
end

