-- ==== Sys2Proof/Machine/Berth.lean ====
section
/-! DEFINITION. Machine/Berth.lean: the shared operations of the loaders, the diverter, the dust zones and the condition
lines: entry to FAULT (R64), pins and releases (R42), the hand-on of a loader change (R66), the diverter state (R79, R80),
the zone machine (R125 to R128, R131 to R135), and the handing on of a condition (R141). -/

namespace Sys2Proof.Machine

/-! ### Loaders -/

/-- A change of a loader's state or pin, from `old`, handed to the blocks that read it (R66). -/
def State.handLoader (s old : State) : State := (s.loaderReason old).formDemand
/-- A loader record as it stands on entering FAULT (R64): the cause recorded, both timers stopped, the rest kept. -/
def LoaderRecord.faulted (r : LoaderRecord) (c : FaultCause) : LoaderRecord :=
  { r with state := .fault, cause := some c, travelTimer := none, spoutTimer := none }
/-- A loader enters FAULT (R64): the STOP order, EQUIPMENT_FAULT, then the hand-on that may suspend the step. -/
def State.faultLoader (s : State) (l : Loader) (c : FaultCause) : State :=
  (((s.withLoader l ((s.loader l).faulted c)).issue l .stop).raise (.equipmentFault (.loader l))).handLoader s
/-- A loader changes its travel state and its record otherwise as given, and the change is handed on. -/
def State.moveLoader (s : State) (l : Loader) (r : LoaderRecord) : State := (s.withLoader l r).handLoader s
/-- A loader in LOWERING whose spout-down condition holds enters LOWERED (R59). -/
def State.testLowered (s : State) (l : Loader) : State :=
  if (s.loader l).state = .lowering ∧ s.spoutDown l = true then
    s.moveLoader l { s.loader l with state := .lowered, spoutTimer := none }
  else s
/-- A loader in RAISING whose spout-up condition holds enters ALIGNED (R60). -/
def State.testRaised (s : State) (l : Loader) : State :=
  if (s.loader l).state = .raising ∧ s.spoutUp l = true then
    s.moveLoader l { s.loader l with state := .aligned, spoutTimer := none }
  else s
/-- An entry after its pinning loader's release: PINNED becomes VALID, PINNED_STALE becomes INVALID (R42). -/
def CacheEntry.release (e : CacheEntry) (l : Loader) : CacheEntry :=
  match e with
  | .pinned k p o => if o = l then .valid k p else e
  | .stale _ _ o => if o = l then .invalid else e
  | _ => e
/-- A loader's pin released; with no pin nothing changes (R42). -/
def State.releasePin (s : State) (l : Loader) : State :=
  s.withCache { s.cache with entries := s.cache.entries.map fun e => e.release l }
/-- An entry pinned by a loader with the key and position that the lookup handed back (R42). -/
def State.pinAt (s : State) (i : Nat) (k : Key) (p : Position) (l : Loader) : State :=
  s.withCache { s.cache with entries := s.cache.entries.set i (.pinned k p l) }
/-- The emergency stop or a dust STOP taken by one loader: it enters FAULT when it is in one of the given states (R63). -/
def State.faultIf (s : State) (l : Loader) (states : List TravelState) (c : FaultCause) : State :=
  if states.contains (s.loader l).state then s.faultLoader l c else s

/-! ### The diverter (R79, R80, R82) -/

/-- The move timer on a change of diverter state: started on entry to MOVING, stopped on departure (R80). -/
def moveTimerAfter (old new : DiverterState) (t : Option Nat) : Option Nat :=
  if new = .moving then (if old = .moving then t else some Config.moveTime) else none
/-- The diverter record with its state derived again and its timer following (R79, R80). -/
def State.settleDiverter (s : State) (d : Diverter) : Diverter :=
  let new := s.derivedDiverter d.command d.lapse
  { d with state := new, timer := moveTimerAfter d.state new d.timer }
/-- A diverter state other than `old`'s is handed to the blocks that read it (R82). -/
def State.handDiverter (s old : State) : State :=
  if s.diverter.state = old.diverter.state then s else (s.loaderReason old).formDemand
/-- EQUIPMENT_FAULT at an entry to UNKNOWN under case 1 of R79 (R80, log 14). -/
def State.raiseUnknown (s old : State) : State :=
  if s.diverter.state = .unknown ∧ old.diverter.state ≠ .unknown ∧ 2 ≤ s.flapCount then
    s.raise (.equipmentFault .diverter)
  else s
/-- The diverter state derived again with a record that differs from `old`'s in command, lapse flag or conditions. -/
def State.deriveDiverter (s old : State) (d : Diverter) : State :=
  ((s.withDiverter (s.settleDiverter d)).raiseUnknown old).handDiverter old
/-- A change of one of the three conditions: it clears a lapse flag when it leaves exactly one asserted, and the state is
derived again (R79, R80). -/
def State.flapChanged (s old : State) : State :=
  s.deriveDiverter old
    { s.diverter with lapse := s.diverter.lapse && !(s.flapCount == 1) }

/-! ### Dust zones (R125 to R135) -/

/-- A change of a zone's state, from `old`, handed to the consumers of its level (R132 to R135): the loader of the zone,
the current step, the gate demand. -/
def State.handZone (s old : State) (z : Zone) : State :=
  let stopped := s.restriction z == .stop && old.restriction z != .stop
  let s1 :=
    match z with
    | .z1 => if stopped then s.faultIf .l1 [.travel] .dust else s
    | .z2 => if stopped then s.faultIf .l2 [.travel] .dust else s
    | .z3 => s
  (s1.dustReason old).formDemand
/-- A zone enters CLEAR or WARN: its event, then its consumers (R125, R128, R131). -/
def State.zoneQuiet (s : State) (z : Zone) (warn : Bool) : State :=
  if warn then
    ((s.withZone z { s.dust.get z with state := .warn, timer := none }).raise (.dustWarn z)).handZone s z
  else
    ((s.withZone z { s.dust.get z with state := .clear, timer := none }).raise (.dustClear z)).handZone s z
/-- The zone record after an entry to ALARM at a reading of the time base (R126): the reading is appended; with three times
the zone goes to LOCKOUT and the history is emptied. -/
def ZoneRecord.alarmed (r : ZoneRecord) (now : Word) : ZoneRecord :=
  if Config.alarmsToLockout ≤ r.history.length + 1 then
    { r with state := .lockout, timer := none, history := [] }
  else { r with state := .alarm, timer := none, history := r.history ++ [now] }
/-- An entry to ALARM (R126): DUST_ALARM, and DUST_LOCKOUT after it when the entry turns into LOCKOUT (R131). -/
def State.enterAlarm (s : State) (z : Zone) : State :=
  let r := (s.dust.get z).alarmed s.timeBase
  let s1 := (s.withZone z r).raise (.dustAlarm z)
  (if r.state = .lockout then s1.raise (.dustLockout z) else s1).handZone s z
/-- An entry to PURGE (R128): the timer is loaded from the latch; an alarm condition found asserted is an entry to ALARM
at once. -/
def State.enterPurge (s : State) (z : Zone) : State :=
  let r := s.dust.get z
  let s1 :=
    (s.withZone z { r with state := .purge, timer := some (r.latch * 1000) }).handZone s z
  if s.alarms z then s1.enterAlarm z else s1
/-- A zone's warn condition has changed (R125, R127, R128, R130). -/
def State.warnChanged (s : State) (z : Zone) (asserted : Bool) : State :=
  match (s.dust.get z).state with
  | .clear => if asserted then s.zoneQuiet z true else s
  | .warn => if asserted || s.alarms z then s else s.zoneQuiet z false
  | .alarm => if asserted || s.alarms z then s else s.enterPurge z
  | .purge => s
  | .lockout => s
/-- A zone's alarm condition has changed (R125 to R128, R130). -/
def State.alarmChanged (s : State) (z : Zone) (asserted : Bool) : State :=
  match (s.dust.get z).state with
  | .clear => if asserted then s.enterAlarm z else s
  | .warn => if asserted then s.enterAlarm z else s
  | .purge => if asserted then s.enterAlarm z else s
  | .alarm => if asserted || s.warns z then s else s.enterPurge z
  | .lockout => s

/-! ### Belt, emergency stop and gate-closed (R73, R76, R77) -/

/-- The belt-run condition has changed. Its loss adds BELT when the demand as it stood just before was not CLOSED (R76). -/
def State.beltChanged (s : State) (asserted : Bool) : State :=
  if asserted then (s.removeReason .belt).formDemand
  else (if s.gate.demand = .closed then s else s.addReason .belt).formDemand
/-- The emergency-stop condition has changed (R63, R77). Of two loaders in motion L1 faults before L2: R63 orders them nowhere
(log 7). -/
def State.estopChanged (s : State) (asserted : Bool) : State :=
  if asserted then
    ((((s.faultIf .l1 [.travel, .lowering, .raising] .estop).faultIf .l2
      [.travel, .lowering, .raising] .estop).addReason .estop)).formDemand
  else (s.removeReason .estop).formDemand
/-- The gate record after a change of the gate-closed condition (R73). In FAULT and in OPEN it is not acted on (R74). -/
def Gate.shutChanged (g : Gate) (asserted : Bool) : Gate :=
  match g.state, asserted with
  | .closing, true => { g with state := .closed, timer := none }
  | .closed, false =>
    if g.demand = .closed then { g with state := .closing, timer := some Config.closureTime } else g
  | _, _ => g
/-- The gate-closed condition has changed: the gate state follows, and its assertion may set a run-out mark (R24, R73). -/
def State.shutChanged (s : State) (asserted : Bool) : State :=
  let s1 := s.withGate (s.gate.shutChanged asserted)
  if asserted then s1.markRunOut.formDemand else s1

/-! ### Conditions (R140, R141) -/

/-- A mode is a level mode (R140). -/
def LineMode.isLevel : LineMode → Bool
  | .high => true
  | .low => true
  | _ => false
/-- The condition after a change of the filtered level to `new` (R140). -/
def LineRecord.conditionAfter (r : LineRecord) (new : Bool) : Bool :=
  r.enabled &&
    match r.mode with
    | .high => new
    | .low => !new
    | .rising => r.condition || (!r.filtered && new)
    | .falling => r.condition || (r.filtered && !new)
    | .both => r.condition || (r.filtered != new)
/-- The condition after an accepted LINE_CONFIG (R142), from the record before it. -/
def LineRecord.conditionConfigured (r : LineRecord) (mode : LineMode) (enable : Bool) : Bool :=
  enable &&
    match mode with
    | .high => r.filtered
    | .low => !r.filtered
    | _ => !r.mode.isLevel && r.condition
/-- A line record replaced. -/
def State.withLine (s : State) (i : Nat) (r : LineRecord) : State :=
  s.withLines { s.lines with records := s.lines.records.set i r }
/-- A changed condition handed to the blocks that the table of R138 names for the line (R141). `old` is the state just
before the change. -/
def State.handCondition (s old : State) (i : Nat) (asserted : Bool) : State :=
  match i with
  | 0 => if asserted then s.testRaised .l1 else s
  | 1 => if asserted then s.testLowered .l1 else s
  | 2 => s.warnChanged .z1 asserted
  | 3 => s.alarmChanged .z1 asserted
  | 4 => if asserted then s.testRaised .l2 else s
  | 5 => if asserted then s.testLowered .l2 else s
  | 6 => s.warnChanged .z2 asserted
  | 7 => s.alarmChanged .z2 asserted
  | 8 => s.warnChanged .z3 asserted
  | 9 => s.alarmChanged .z3 asserted
  | 10 => s.flapChanged old
  | 11 => s.flapChanged old
  | 12 => s.flapChanged old
  | 13 => s.beltChanged asserted
  | 14 => s.estopChanged asserted
  | 15 => s.shutChanged asserted
  | _ => s
/-- A line record replaced, and its condition handed on when it has changed (R141). -/
def State.setLine (s : State) (i : Nat) (r : LineRecord) : State :=
  if r.condition = s.cond i then s.withLine i r else (s.withLine i r).handCondition s i r.condition
/-- The filtered level of a line changes (R139, R140, R141). -/
def State.changeFiltered (s : State) (i : Nat) (new : Bool) : State :=
  s.setLine i
    { s.line i with filtered := new, runCount := 0, condition := (s.line i).conditionAfter new }
/-- One sample of a line (R139). -/
def State.sampleLine (s : State) (i : Nat) (sample : Bool) : State :=
  if sample = (s.line i).filtered then s.withLine i { s.line i with runCount := 0 }
  else if (s.line i).runCount < 2 then s.withLine i { s.line i with runCount := (s.line i).runCount + 1 }
  else s.changeFiltered i sample

end Sys2Proof.Machine
end

