-- ==== Sys2Proof/Machine/DustSupervision.lean ====
section
/-! DEFINITION. Machine/DustSupervision.lean: the requests of the Dust Supervisor: DUST_CONFIG (R129) and DUST_RESET (R130); the
expiry of a purge timer (R128) and of a time of the alarm history (R126). -/

namespace Sys2Proof.Machine

/-- DUST_CONFIG by the Dust Supervisor (R129): a running timer keeps its remaining time. -/
def doDustConfig (zone seconds : Nat) (s : State) : Reply :=
  match zoneOf zone with
  | none => .refused .range s
  | some z =>
    if inRange seconds 30 900 then .done .empty (s.withZone z { s.dust.get z with latch := seconds })
    else .refused .range s
/-- DUST_CONFIG (R129). -/
def execDustConfig (tag : Byte) (zone seconds : Nat) (s : State) : Host.Outcome State Fault Refusal :=
  takeRequest .terminal tag (.dustConfig tag zone seconds) (doDustConfig zone seconds) s

/-- DUST_RESET by the Dust Supervisor (R130). -/
def doDustReset (zone : Nat) (s : State) : Reply :=
  match zoneOf zone with
  | none => .refused .range s
  | some z =>
    if (s.dust.get z).state ≠ .lockout then .refused .state s
    else if s.warns z || s.alarms z then .refused .state s
    else .done .empty (s.enterPurge z)
/-- DUST_RESET (R130). -/
def execDustReset (tag : Byte) (zone : Nat) (s : State) : Host.Outcome State Fault Refusal :=
  takeRequest .terminal tag (.dustReset tag zone) (doDustReset zone) s

/-- The purge timer of a zone expires in PURGE: to WARN when its warn condition is asserted, to CLEAR otherwise (R128). -/
def State.purgeExpired (s : State) (z : Zone) : State :=
  if (s.dust.get z).state = .purge ∧ (s.dust.get z).timer.isSome = true then s.zoneQuiet z (s.warns z) else s
/-- PURGE_TIMER_EXPIRY (R128, log 5). -/
def execPurgeTimerExpiry (zone : Zone) (s : State) : Host.Outcome State Fault Refusal :=
  s.powered fun s => .next (s.purgeExpired zone)

/-- The times whose age exceeds 1,800 s leave a zone's alarm history (R126). -/
def State.historyExpired (s : State) (z : Zone) : State :=
  s.withZone z
    { s.dust.get z with
      history := (s.dust.get z).history.filter fun t => decide ((s.timeBase - t).toNat ≤ Config.historyAge) }
/-- ALARM_HISTORY_EXPIRY (R126): a time that is not older than 1,800 s by the time base is kept (log 26). -/
def execAlarmHistoryExpiry (zone : Zone) (s : State) : Host.Outcome State Fault Refusal :=
  s.powered fun s => .next (s.historyExpired zone)

end Sys2Proof.Machine
end

