-- ==== Sys2Proof/Machine/FeedGate.lean ====
section
/-! DEFINITION. Machine/FeedGate.lean: the requests of the Feed Gate and Diverter: DIVERT (R81) and FEED_RESET (R75); the
expiries of the closure timer (R74) and of the move timer (R80), and the passing of 600 s by a level's age (R71). -/

namespace Sys2Proof.Machine

/-- The flap command replaced, with its three output lines (R78). -/
def Diverter.commanded (d : Diverter) (c : Option FlapTarget) (lapse : Bool) : Diverter :=
  { d with
    command := c
    lapse := lapse
    toL1 := c == some .l1
    toL2 := c == some .l2
    toReturn := c == some .chute }
/-- DIVERT by the Feed Gate and Diverter (R81). -/
def doDivert (target : Nat) (s : State) : Reply :=
  match targetOf target with
  | none => .refused .range s
  | some t =>
    if s.diverter.state = .moving then .refused .state s
    else if s.gate.demand ≠ .closed then .refused .state s
    else if t ≠ .chute ∧ s.beltEmpty = false then .refused .beltBusy s
    else
      let s1 := s.deriveDiverter s (s.diverter.commanded (some t) false)
      .done (.diverter s1.diverter.state) s1
/-- DIVERT (R81). -/
def execDivert (tag : Byte) (target : Nat) (s : State) : Host.Outcome State Fault Refusal :=
  takeRequest .terminal tag (.divert tag target) (doDivert target) s

/-- The gate record after an accepted FEED_RESET (R75). -/
def Gate.resetFault (g : Gate) : Gate := { g with state := .closed, fault := false, timer := none }
/-- FEED_RESET by the Feed Gate and Diverter (R75). -/
def doFeedReset (s : State) : Reply :=
  if s.gate.fault = false then .refused .state s
  else if s.gateShut = false then .refused .state s
  else .done .empty (((s.withGate s.gate.resetFault).removeReason .gate).formDemand)
/-- FEED_RESET (R75). -/
def execFeedReset (tag : Byte) (s : State) : Host.Outcome State Fault Refusal :=
  takeRequest .terminal tag (.feedReset tag) doFeedReset s

/-- The gate record at a closure timer expiry (R74). -/
def Gate.faulted (g : Gate) : Gate := { g with state := .fault, fault := true, timer := none }
/-- The closure timer expires in CLOSING (R74): EQUIPMENT_FAULT, then GATE on the current step. -/
def State.closureExpired (s : State) : State :=
  if s.gate.state = .closing ∧ s.gate.timer.isSome = true then
    (((s.withGate s.gate.faulted).raise (.equipmentFault .gate)).addReason .gate).formDemand
  else s
/-- CLOSURE_TIMER_EXPIRY (R74, log 5). -/
def execClosureTimerExpiry (s : State) : Host.Outcome State Fault Refusal :=
  s.powered fun s => .next s.closureExpired

/-- The move timer expires in MOVING (R80): the lapse flag is set, the outputs are withdrawn, the state is UNKNOWN, and
EQUIPMENT_FAULT comes before the consumers (R82). -/
def State.moveExpired (s : State) : State :=
  if s.diverter.state = .moving ∧ s.diverter.timer.isSome = true then
    ((s.withDiverter (s.settleDiverter (s.diverter.commanded none true))).raise
      (.equipmentFault .diverter)).handDiverter s
  else s
/-- MOVE_TIMER_EXPIRY (R80, log 5). -/
def execMoveTimerExpiry (s : State) : Host.Outcome State Fault Refusal :=
  s.powered fun s => .next s.moveExpired

/-- The level record at the moment its age passes 600 s (R32, R71). -/
def LevelRecord.passed (r : LevelRecord) : LevelRecord := { r with age := Config.agedAfter + 1, subMs := 0 }
/-- The test for LEVEL_AGED when the feeding step pours into the hold (R71). -/
def State.testAgedIn (s : State) (hold : Nat) : State :=
  match s.feeding? with
  | some st => if st.hold = hold then s.testAged else s
  | none => s
/-- The age of a hold's level passes 600 s (R70, R71). -/
def State.levelPassed (s : State) (hold : Nat) : State :=
  match s.level? hold with
  | some r =>
    if r.age ≤ Config.agedAfter then
      ((s.withHatch { s.hatch with levels := setSlot s.hatch.levels hold (some r.passed) }).testAgedIn hold).formDemand
    else s
  | none => s
/-- LEVEL_AGE_EXPIRY (R71, log 5). -/
def execLevelAgeExpiry (hold : Nat) (s : State) : Host.Outcome State Fault Refusal :=
  s.powered fun s => .next (s.levelPassed hold)

end Sys2Proof.Machine
end

