-- ==== Sys2Proof/Machine/WindowCache.lean ====
section
/-! DEFINITION. Machine/WindowCache.lean: translation (R36, R37), the zone check (R35), the lookup and the allocation (R39,
R40), invalidation (R44, R45), FLUSH (R46) and PROBE (R48). -/

namespace Sys2Proof.Machine

/-! ### Translation (R36, R37) -/

/-- The result of a table search: a failure without coordinates, a failure with REACH and the computed X and Y, or a
position (R37). -/
inductive Translated where
  | failed (code : AnswerCode)
  | outOfReach (x y : Int)
  | found (p : Position)
  deriving DecidableEq, Repr

/-- The part of a stretch from `lo` to `hi` that a percentage takes, rounded down (R1, R36). -/
def percentOf (lo hi pct : Nat) : Nat := (hi - lo) * pct / 100
/-- The berth X of a pour point (R36). -/
def berthX (m : Mooring) (d : HoldDescriptor) (p : PourPoint) : Int :=
  match m.orientation with
  | .bowUpstream => (m.sternX : Int) + ((d.aft + percentOf d.aft d.fore p.along : Nat) : Int)
  | .bowDownstream => (m.sternX : Int) - ((d.aft + percentOf d.aft d.fore p.along : Nat) : Int)
/-- The berth Y of a pour point (R36). -/
def berthY (m : Mooring) (d : HoldDescriptor) (p : PourPoint) : Int :=
  ((m.fender + d.inner + percentOf d.inner d.outer p.athwart : Nat) : Int)
/-- Condition 4 of R37: the coordinates lie in the reach of the loaders. -/
def inReach (x y : Int) : Bool := decide (0 ≤ x ∧ x ≤ 250000 ∧ 3000 ≤ y ∧ y ≤ 26000)
/-- Computed coordinates become a position or a REACH failure (R37). -/
def reached (x y : Int) : Translated := if inReach x y then .found ⟨x.toNat, y.toNat⟩ else .outOfReach x y
/-- The table search for a key (R36, R37). -/
def State.translate (s : State) (k : Key) : Translated :=
  match s.hatch.mooring with
  | none => .failed .noMooring
  | some m =>
    match s.descriptor? k.hold with
    | none => .failed .noHold
    | some d =>
      match d.points[k.point]? with
      | none => .failed .noPoint
      | some p => reached (berthX m d p) (berthY m d p)

/-! ### The zone check (R35) -/

/-- The position lies in an enabled zone, its bounds included. -/
def KeepOut.covers (z : KeepOut) (p : Position) : Bool :=
  z.enabled && decide (z.xmin ≤ p.x ∧ p.x ≤ z.xmax ∧ z.ymin ≤ p.y ∧ p.y ≤ z.ymax)
/-- The lowest index of the enabled zones that hold a position. -/
def State.zoneAt? (s : State) (p : Position) : Option Nat := s.hatch.zones.findIdx? fun z => z.covers p

/-! ### The lookup (R39, R40) -/

/-- What a lookup gives: the state with its effects on the cache, its outcome with the fields of a probe record, and the
fault of a cache with no entry to allocate (log 17). -/
structure Lookup where
  state : State
  record : ProbeRecord
  stop : Option Fault

/-- A lookup that ends without a position. -/
def lookupFailed (s : State) (code : AnswerCode) : Lookup := ⟨s, ⟨code, none, none, none, none, none⟩, none⟩
/-- A lookup that ends with REACH and the computed coordinates. -/
def lookupReach (s : State) (x y : Int) : Lookup := ⟨s, ⟨.reach, some (x, y), none, none, none, none⟩, none⟩
/-- A lookup that meets another's pinned entry. -/
def lookupOccupied (s : State) (i : Nat) (l : Loader) : Lookup :=
  ⟨s, ⟨.occupied, none, none, none, some i, some l⟩, none⟩
/-- A lookup that has found a position at an entry, subject to the zone check (R35, R39). -/
def lookupFound (s : State) (hit : Bool) (i : Nat) (p : Position) : Lookup :=
  match s.zoneAt? p with
  | some z => ⟨s, ⟨.zone, some (p.x, p.y), some hit, some z, some i, none⟩, none⟩
  | none => ⟨s, ⟨.done, some (p.x, p.y), some hit, none, some i, none⟩, none⟩
/-- The replacement pointer advanced by one, from 7 to 0 after 7 (R39). -/
def State.advancePointer (s : State) : State :=
  s.withCache { s.cache with pointer := if 7 ≤ s.cache.pointer then 0 else s.cache.pointer + 1 }
/-- The entry is VALID. -/
def CacheEntry.isValid : CacheEntry → Bool
  | .valid _ _ => true
  | _ => false
/-- The entry is INVALID. -/
def CacheEntry.isInvalid : CacheEntry → Bool
  | .invalid => true
  | _ => false
/-- The scan of R40: upward from the replacement pointer, wrapping from 7 to 0, to the first VALID entry. -/
def Cache.scan? (c : Cache) : Option Nat :=
  ((List.range 8).map fun j => (c.pointer + j) % 8).find? fun i =>
    match c.entries[i]? with
    | some e => e.isValid
    | none => false
/-- The entry that a miss allocates: the lowest-index INVALID entry, else the entry of the scan (R40). -/
def Cache.victim? (c : Cache) : Option Nat :=
  match c.entries.findIdx? CacheEntry.isInvalid with
  | some i => some i
  | none => c.scan?
/-- An entry loaded as VALID (R40). -/
def State.loadEntry (s : State) (i : Nat) (k : Key) (p : Position) : State :=
  s.withCache { s.cache with entries := s.cache.entries.set i (.valid k p) }
/-- A miss that loads an entry when its table search succeeds (R39, R40). -/
def State.missLoading (s : State) (k : Key) : Lookup :=
  match s.translate k with
  | .failed c => lookupFailed s c
  | .outOfReach x y => lookupReach s x y
  | .found p =>
    match s.cache.victim? with
    | some i => lookupFound (s.loadEntry i k p) false i p
    | none => ⟨s, ⟨.done, none, none, none, none, none⟩, some .noVictim⟩
/-- A miss that reuses the requester's own PINNED_STALE entry: nothing is loaded (R39). -/
def State.missReusing (s : State) (k : Key) (i : Nat) : Lookup :=
  match s.translate k with
  | .failed c => lookupFailed s c
  | .outOfReach x y => lookupReach s x y
  | .found p => lookupFound s false i p
/-- The first entry that is not INVALID and holds a key, with its index. -/
def Cache.holding? (c : Cache) (k : Key) : Option (Nat × CacheEntry) :=
  match c.entries.findIdx? (fun e => e.key? == some k) with
  | some i => (c.entries[i]?).map fun e => (i, e)
  | none => none
/-- The examination of the entries for a key (R39). -/
def State.examine (s : State) (who : Option Loader) (k : Key) : Lookup :=
  match s.cache.holding? k with
  | some (i, .valid _ p) => lookupFound s true i p
  | some (i, .pinned _ p l) => if who = some l then lookupFound s true i p else lookupOccupied s i l
  | some (i, .stale _ _ l) => if who = some l then s.missReusing k i else lookupOccupied s i l
  | _ => s.missLoading k
/-- A lookup for a key on behalf of a loader, or of a station's PROBE when `who` is none (R39). -/
def State.lookup (s : State) (who : Option Loader) (k : Key) : Lookup := s.advancePointer.examine who k

/-! ### Invalidation (R44, R45) -/

/-- An entry concerned by an invalidation (R44). -/
def CacheEntry.invalidated : CacheEntry → CacheEntry
  | .valid _ _ => .invalid
  | .pinned k p l => .stale k p l
  | e => e
/-- The entry's key is one of those an invalidation concerns. -/
def CacheEntry.concerned (e : CacheEntry) (sel : Key → Bool) : Bool :=
  match e.key? with
  | some k => sel k
  | none => false
/-- The pinning loaders of the pinned entries concerned, in index order, one for each STALE_WINDOW (R44). -/
def Cache.staleLoaders (c : Cache) (sel : Key → Bool) : List Loader :=
  (c.entries.filter fun e => e.concerned sel).filterMap CacheEntry.pinner?
/-- How many entries an invalidation makes INVALID (R44). -/
def Cache.invalidCount (c : Cache) (sel : Key → Bool) : Nat :=
  c.entries.countP fun e => e.isValid && e.concerned sel
/-- The entries after an invalidation of the keys selected (R44). -/
def Cache.invalidate (c : Cache) (sel : Key → Bool) : Cache :=
  { c with entries := c.entries.map fun e => if e.concerned sel then e.invalidated else e }
/-- STALE_WINDOW raised for each loader of a list. -/
def State.raiseStale (s : State) (ls : List Loader) : State := ls.foldl (fun t l => t.raise (.staleWindow l)) s
/-- An invalidation of the keys selected, with its STALE_WINDOW events (R44, R45). -/
def State.invalidate (s : State) (sel : Key → Bool) : State :=
  (s.withCache (s.cache.invalidate sel)).raiseStale (s.cache.staleLoaders sel)
/-- The two counts of the answer to an invalidating request (R29, R44). -/
def State.invalidationCounts (s : State) (sel : Key → Bool) : AnswerRecord :=
  .counts (s.cache.invalidCount sel) (s.cache.staleLoaders sel).length

/-! ### FLUSH and PROBE -/

/-- FLUSH's effect on one entry (R46). -/
def CacheEntry.flushed (e : CacheEntry) : CacheEntry := if e.isValid then .invalid else e
/-- FLUSH by the Window Cache (R46). -/
def doFlush (s : State) : Reply :=
  .done (.count (s.cache.entries.countP CacheEntry.isValid))
    (s.withCache { s.cache with entries := s.cache.entries.map CacheEntry.flushed })
/-- FLUSH (R46). -/
def execFlush (tag : Byte) (s : State) : Host.Outcome State Fault Refusal :=
  takeRequest .terminal tag (.flush tag) doFlush s

/-- PROBE by the Window Cache (R48). -/
def doProbe (hold point : Nat) (s : State) : Reply :=
  if holdOk hold && pointOk point then
    let r := s.lookup none ⟨hold, point⟩
    ⟨r.record.outcome, .probe r.record, r.state, r.stop⟩
  else .refused .range s
/-- PROBE (R48). The survey role is not entitled to it, and the Link Unit answers it DENIED (R156, log 31). -/
def execProbe (link : Link) (tag : Byte) (hold point : Nat) (s : State) : Host.Outcome State Fault Refusal :=
  match link with
  | .survey => s.powered fun s => .next (s.refuse .survey tag .denied 43)
  | k => takeRequest k tag (.probe k tag hold point) (doProbe hold point) s

end Sys2Proof.Machine
end

