-- ==== Sys2Proof/Machine/HatchMap.lean ====
section
/-! DEFINITION. Machine/HatchMap.lean: the requests of the Hatch Map: MOORING (R33), ZONE_SET (R34), HATCH_DEFINE (R29),
HATCH_DELETE (R30) and LEVEL (R31), with the renewal of tip limits that an accepted LEVEL makes (R61). -/

namespace Sys2Proof.Machine

/-- The mooring record replaced (R33). -/
def State.setMooring (s : State) (m : Mooring) : State := s.withHatch { s.hatch with mooring := some m }
/-- Every key: the entries that a MOORING concerns (R45). -/
def everyKey : Key → Bool := fun _ => true
/-- MOORING by the Hatch Map (R33, R45). -/
def doMooring (sternX fender orientation : Nat) (s : State) : Reply :=
  match orientationOf orientation with
  | some o =>
    if sternX ≤ 250000 ∧ fender ≤ 5000 then
      .done (s.invalidationCounts everyKey) ((s.setMooring ⟨sternX, fender, o⟩).invalidate everyKey)
    else .refused .range s
  | none => .refused .range s
/-- MOORING (R33). -/
def execMooring (tag : Byte) (sternX fender orientation : Nat) (s : State) : Host.Outcome State Fault Refusal :=
  takeRequest .terminal tag (.mooring tag sternX fender orientation) (doMooring sternX fender orientation) s

/-- ZONE_SET by the Hatch Map (R34). -/
def doZoneSet (index : Nat) (z : KeepOut) (s : State) : Reply :=
  if index ≤ 3 ∧ boundsOk z.xmin z.xmax z.ymin z.ymax = true then
    .done .empty (s.withHatch { s.hatch with zones := s.hatch.zones.set index z })
  else .refused .range s
/-- ZONE_SET (R34). -/
def execZoneSet (tag : Byte) (index : Nat) (enable : Bool) (xmin xmax ymin ymax : Nat) (s : State) :
    Host.Outcome State Fault Refusal :=
  takeRequest .terminal tag (.zoneSet tag index enable xmin xmax ymin ymax)
    (doZoneSet index ⟨enable, xmin, xmax, ymin, ymax⟩) s

/-- A key names a hold. -/
def ofHold (h : Nat) : Key → Bool := fun k => k.hold == h
/-- The descriptor of a hold set or made absent (R28). -/
def State.setHold (s : State) (h : Nat) (d : Option HoldDescriptor) : State :=
  s.withHatch { s.hatch with holds := setSlot s.hatch.holds h d }
/-- HATCH_DEFINE by the Hatch Map (R29, R44). -/
def doHatchDefine (h : Nat) (d : HoldDescriptor) (s : State) : Reply :=
  if holdOk h && inRange d.points.length 1 8 && edgesOk d.aft d.fore d.inner d.outer && pointsOk d.points then
    .done (s.invalidationCounts (ofHold h)) ((s.setHold h (some d)).invalidate (ofHold h))
  else .refused .range s
/-- HATCH_DEFINE (R29). -/
def execHatchDefine (tag : Byte) (hold aft fore inner outer : Nat) (points : List PourPoint) (s : State) :
    Host.Outcome State Fault Refusal :=
  takeRequest .vessel tag (.hatchDefine tag hold aft fore inner outer points)
    (doHatchDefine hold ⟨aft, fore, inner, outer, points⟩) s

/-- HATCH_DELETE by the Hatch Map (R30, R44). -/
def doHatchDelete (h : Nat) (s : State) : Reply :=
  if !holdOk h then .refused .range s
  else if (s.descriptor? h).isNone then .refused .noHold s
  else if !(s.cache.staleLoaders (ofHold h)).isEmpty then .refused .state s
  else .done (s.invalidationCounts (ofHold h)) ((s.setHold h none).invalidate (ofHold h))
/-- HATCH_DELETE (R30). -/
def execHatchDelete (tag : Byte) (hold : Nat) (s : State) : Host.Outcome State Fault Refusal :=
  takeRequest .vessel tag (.hatchDelete tag hold) (doHatchDelete hold) s

/-- The tip limit of a coaming level (R58, R61). -/
def tipOf (level : Int) : Int := level - Config.tipMargin
/-- The loader takes a renewal: it is LOWERING or LOWERED and its pinned entry's key names the hold (R61). -/
def State.takesRenewal (s : State) (l : Loader) (h : Nat) : Bool :=
  ((s.loader l).state == .lowering || (s.loader l).state == .lowered)
    && (match s.pinKey? l with
      | some k => k.hold == h
      | none => false)
/-- The renewal of one loader's tip limit (R61). -/
def State.renewTip (s : State) (l : Loader) (h : Nat) (level : Int) : State :=
  if s.takesRenewal l h then
    (s.withLoader l { s.loader l with tipLimit := some (tipOf level) }).issue l (.lower (tipOf level))
  else s
/-- The level record of a hold set, its age restarted at 0 s (R31). -/
def State.setLevel (s : State) (h : Nat) (v : Int) : State :=
  s.withHatch { s.hatch with levels := setSlot s.hatch.levels h (some ⟨v, 0, 0⟩) }
/-- LEVEL by the Hatch Map (R31): the level is set, handed to Loader Travel (R61) and to the gate demand (R70). -/
def doLevel (h : Nat) (v : Int) (s : State) : Reply :=
  if holdOk h && heightOk v then
    .done .empty ((((s.setLevel h v).renewTip .l1 h v).renewTip .l2 h v).formDemand)
  else .refused .range s
/-- LEVEL (R31). -/
def execLevel (tag : Byte) (hold : Nat) (height : Int) (s : State) : Host.Outcome State Fault Refusal :=
  takeRequest .vessel tag (.level tag hold height) (doLevel hold height) s

end Sys2Proof.Machine
end

