-- ==== Sys2Proof/Machine/LoaderTravel.lean ====
section
/-! DEFINITION. Machine/LoaderTravel.lean: the requests of Loader Travel: MOVE (R54), LOWER (R58), RAISE (R60), STOP (R57),
RECOVER (R65) and LOADER_READ (R67); the position report (R52, R53, R55, R62); the travel and spout timer expiries (R56,
R59) and the loss of a drive (R62). -/

namespace Sys2Proof.Machine

/-! ### MOVE (R54) -/

/-- The record of a loader that has been sent to a position from a starting X (R54 (c) and (e)). -/
def LoaderRecord.sent (r : LoaderRecord) (from_ : Nat) (p : Position) : LoaderRecord :=
  { r with
    state := .travel
    claim := some (travelClaim from_ p.x)
    target := some p
    alignCount := 0
    travelTimer := some Config.travelTime }
/-- The effects of an accepted MOVE (R54 (a) to (e)), then the hand-on of R66. -/
def State.sendLoader (s : State) (l : Loader) (k : Key) (i : Nat) (from_ : Nat) (p : Position) : State :=
  ((((s.releasePin l).pinAt i k p l).issue l (.go p.x p.y)).withLoader l
    ((s.loader l).sent from_ p)).handLoader s
/-- Checks 5 and 6 of MOVE after the lookup (R54). -/
def moveFound (l : Loader) (k : Key) (r : Lookup) : Reply :=
  match r.stop, r.record.outcome, r.record.at_, r.record.entry with
  | some f, _, _, _ => .halted f r.state
  | none, .done, some (x, y), some i =>
    match (r.state.loader l).lastReport with
    | none => .halted .noReport r.state
    | some rep =>
      if r.state.keepsGap l (travelClaim rep.x x.toNat) then
        .done (.moved ⟨x.toNat, y.toNat⟩ i) (r.state.sendLoader l k i rep.x ⟨x.toNat, y.toNat⟩)
      else .refused .held r.state
  | none, code, _, _ => .refused code r.state
/-- MOVE by Loader Travel: checks 1 to 4, then the lookup (R54). -/
def doMove (loader hold point : Nat) (s : State) : Reply :=
  match loaderOf loader with
  | none => .refused .range s
  | some l =>
    if !(holdOk hold && pointOk point) then .refused .range s
    else if (s.loader l).state ≠ .idle ∧ (s.loader l).state ≠ .aligned then .refused .state s
    else if s.estop then .refused .state s
    else if s.restriction (loaderZone l) = .stop then .refused .dust s
    else moveFound l ⟨hold, point⟩ (s.lookup (some l) ⟨hold, point⟩)
/-- MOVE (R54). -/
def execMove (tag : Byte) (loader hold point : Nat) (s : State) : Host.Outcome State Fault Refusal :=
  takeRequest .terminal tag (.move tag loader hold point) (doMove loader hold point) s

/-! ### LOWER and RAISE (R58, R60) -/

/-- The coaming level that a LOWER reads: that of the hold of the pinned entry's key (R58). -/
def State.pinLevel? (s : State) (l : Loader) : Option Int :=
  (s.pinKey? l).bind fun k => (s.level? k.hold).map (·.height)
/-- The effects of an accepted LOWER: the entry to LOWERING with its order, then the test for LOWERED (R58, R59). -/
def State.lowerSpout (s : State) (l : Loader) (tip : Int) : State :=
  ((s.issue l (.lower tip)).moveLoader l
    { s.loader l with state := .lowering, tipLimit := some tip, spoutTimer := some Config.spoutTime }).testLowered l
/-- LOWER by Loader Travel (R58). -/
def doLower (loader : Nat) (s : State) : Reply :=
  match loaderOf loader with
  | none => .refused .range s
  | some l =>
    if (s.loader l).state ≠ .aligned then .refused .state s
    else if s.estop then .refused .state s
    else
      match s.pinLevel? l with
      | none => .refused .noLevel s
      | some v => .done (.tipLimit (tipOf v)) (s.lowerSpout l (tipOf v))
/-- LOWER (R58). -/
def execLower (tag : Byte) (loader : Nat) (s : State) : Host.Outcome State Fault Refusal :=
  takeRequest .terminal tag (.lower tag loader) (doLower loader) s

/-- The effects of an accepted RAISE: the entry to RAISING with its order, then the test for ALIGNED (R60). -/
def State.raiseSpout (s : State) (l : Loader) : State :=
  ((s.issue l .raise).moveLoader l
    { s.loader l with state := .raising, spoutTimer := some Config.spoutTime }).testRaised l
/-- RAISE by Loader Travel (R60). -/
def doRaise (loader : Nat) (s : State) : Reply :=
  match loaderOf loader with
  | none => .refused .range s
  | some l =>
    if (s.loader l).state ≠ .lowered ∧ (s.loader l).state ≠ .lowering then .refused .state s
    else if s.estop then .refused .state s
    else if s.restriction (loaderZone l) = .stop then .refused .dust s
    else .done .empty (s.raiseSpout l)
/-- RAISE (R60). -/
def execRaise (tag : Byte) (loader : Nat) (s : State) : Host.Outcome State Fault Refusal :=
  takeRequest .terminal tag (.raise tag loader) (doRaise loader) s

/-! ### STOP and RECOVER (R57, R65) -/

/-- A loader record that has become IDLE with a stationary claim (R57, R65). -/
def LoaderRecord.idled (r : LoaderRecord) (c : Claim) : LoaderRecord :=
  { r with state := .idle, cause := none, claim := some c, alignCount := 0, travelTimer := none }
/-- A loader becomes IDLE: its pin is released, and the change is handed on (R57, R65, R66). -/
def State.idleLoader (s : State) (l : Loader) (c : Claim) : State :=
  ((s.releasePin l).withLoader l ((s.loader l).idled c)).handLoader s
/-- STOP by Loader Travel (R57). -/
def doStop (loader : Nat) (s : State) : Reply :=
  match loaderOf loader with
  | none => .refused .range s
  | some l =>
    if (s.loader l).state ≠ .travel then .refused .state s
    else
      match (s.loader l).lastReport with
      | none => .halted .noReport s
      | some rep =>
        .done (.claim (stationaryClaim rep.x)) ((s.issue l .stop).idleLoader l (stationaryClaim rep.x))
/-- STOP (R57). -/
def execStop (tag : Byte) (loader : Nat) (s : State) : Host.Outcome State Fault Refusal :=
  takeRequest .terminal tag (.stop tag loader) (doStop loader) s

/-- RECOVER by Loader Travel (R65). -/
def doRecover (loader : Nat) (s : State) : Reply :=
  match loaderOf loader with
  | none => .refused .range s
  | some l =>
    if (s.loader l).state ≠ .fault then .refused .state s
    else if !s.spoutUp l then .refused .state s
    else
      match (s.loader l).lastReport with
      | none => .halted .noReport s
      | some rep =>
        if Config.driveLostAge ≤ (s.loader l).reportAge ∨ rep.status = .fault then .refused .state s
        else if s.estop then .refused .state s
        else if !s.keepsGap l (stationaryClaim rep.x) then .refused .held s
        else .done (.claim (stationaryClaim rep.x)) (s.idleLoader l (stationaryClaim rep.x))
/-- RECOVER (R65). -/
def execRecover (tag : Byte) (loader : Nat) (s : State) : Host.Outcome State Fault Refusal :=
  takeRequest .terminal tag (.recover tag loader) (doRecover loader) s

/-! ### LOADER_READ (R67) -/

/-- The pinned entry as LOADER_READ gives it (R67). -/
def State.pinView? (s : State) (l : Loader) : Option PinView :=
  match s.pin? l, s.pinEntry? l with
  | some i, some (.pinned k p _) => some ⟨i, k, p, false⟩
  | some i, some (.stale k p _) => some ⟨i, k, p, true⟩
  | _, _ => none
/-- The answer of LOADER_READ (R67). -/
def State.loaderView (s : State) (l : Loader) : LoaderView :=
  ⟨s.loader l, s.pinView? l, s.restriction (loaderZone l), s.spoutUp l, s.spoutDown l, s.estop⟩
/-- LOADER_READ by Loader Travel (R67). -/
def doLoaderRead (loader : Nat) (s : State) : Reply :=
  match loaderOf loader with
  | none => .refused .range s
  | some l => .done (.loader (s.loaderView l)) s
/-- LOADER_READ (R67). -/
def execLoaderRead (link : Link) (tag : Byte) (loader : Nat) (s : State) : Host.Outcome State Fault Refusal :=
  takeRequest link tag (.loaderRead link tag loader) (doLoaderRead loader) s

/-! ### Position reports (R52, R53, R55, R62) -/

/-- A report recorded: the last report is replaced and the age restarts (R52). -/
def LoaderRecord.reported (r : LoaderRecord) (rep : Report) : LoaderRecord :=
  { r with lastReport := some rep, reportAge := 0 }
/-- The handling of a first report (R53). -/
def State.firstReport (s : State) (l : Loader) (rep : Report) : State :=
  let s1 := s.withLoader l { s.loader l with claim := some (stationaryClaim rep.x) }
  if rep.status = .fault then s1.faultLoader l .driveFault
  else if s.keepsGap l (stationaryClaim rep.x) then s1.moveLoader l { s1.loader l with state := .idle }
  else s1.faultLoader l .drift
/-- The report lies within a tolerance of the target in X and in Y (R55, R62). -/
def LoaderRecord.near (r : LoaderRecord) (tol : Int) (rep : Report) : Bool :=
  match r.target with
  | some p => within tol rep.x p.x && within tol rep.y p.y
  | none => false
/-- The alignment test in TRAVEL (R55). -/
def State.alignReport (s : State) (l : Loader) (rep : Report) : State :=
  if (s.loader l).near Config.alignTolerance rep then
    if 2 ≤ (s.loader l).alignCount + 1 then
      s.moveLoader l
        { s.loader l with
          state := .aligned
          claim := some (stationaryClaim rep.x)
          travelTimer := none
          alignCount := 0 }
    else s.withLoader l { s.loader l with alignCount := (s.loader l).alignCount + 1 }
  else s.withLoader l { s.loader l with alignCount := 0 }
/-- The drift test (R62). -/
def State.driftReport (s : State) (l : Loader) (rep : Report) : State :=
  if (s.loader l).near Config.driftTolerance rep then s else s.faultLoader l .drift
/-- A recorded report acted on by travel state (R52). -/
def State.actOnReport (s : State) (l : Loader) (rep : Report) : State :=
  match (s.loader l).state with
  | .unreported => s.firstReport l rep
  | .fault => s
  | .idle => if rep.status = .fault then s.faultLoader l .driveFault else s
  | .travel => if rep.status = .fault then s.faultLoader l .driveFault else s.alignReport l rep
  | .aligned => if rep.status = .fault then s.faultLoader l .driveFault else s.driftReport l rep
  | .lowering => if rep.status = .fault then s.faultLoader l .driveFault else s.driftReport l rep
  | .lowered => if rep.status = .fault then s.faultLoader l .driveFault else s.driftReport l rep
  | .raising => if rep.status = .fault then s.faultLoader l .driveFault else s.driftReport l rep
/-- A position report taken by Loader Travel: it is valid when X and Y lie in range, and is set aside otherwise (R52). -/
def State.takeReport (s : State) (l : Loader) (rep : Report) : State :=
  if rep.x ≤ 250000 ∧ rep.y ≤ 30000 then (s.withLoader l ((s.loader l).reported rep)).actOnReport l rep else s
/-- A port's receiver hunts again (R147). -/
def State.huntPort (s : State) (l : Loader) : State := s.withPort l { s.port l with receiver := .hunting }
/-- POSITION_REPORT: a frame that passed its check has arrived, and its report is handed to Loader Travel (R52, R147,
log 12). -/
def execPositionReport (loader : Loader) (status : DriveStatus) (x y : Nat) (s : State) :
    Host.Outcome State Fault Refusal :=
  s.powered fun s => .next ((s.huntPort loader).takeReport loader ⟨x, y, status⟩)

/-! ### Timers and the loss of a drive (R56, R59, R62) -/

/-- TRAVEL_TIMER_EXPIRY (R56, log 5). -/
def execTravelTimerExpiry (loader : Loader) (s : State) : Host.Outcome State Fault Refusal :=
  s.powered fun s => .next
    (if (s.loader loader).state = .travel ∧ (s.loader loader).travelTimer.isSome = true then
      s.faultLoader loader .travelTime
    else s)
/-- SPOUT_TIMER_EXPIRY (R59, log 5). -/
def execSpoutTimerExpiry (loader : Loader) (s : State) : Host.Outcome State Fault Refusal :=
  s.powered fun s => .next
    (if ((s.loader loader).state = .lowering ∨ (s.loader loader).state = .raising)
        ∧ (s.loader loader).spoutTimer.isSome = true then s.faultLoader loader .spoutTime
    else s)
/-- The states whose report age is watched to a fault (R62). -/
def TravelState.watched : TravelState → Bool
  | .unreported => false
  | .fault => false
  | _ => true
/-- DRIVE_LOST: the report age reaches 1,000 ms (R62, log 5). -/
def execDriveLost (loader : Loader) (s : State) : Host.Outcome State Fault Refusal :=
  s.powered fun s => .next
    (if (s.loader loader).state.watched then
      (s.withLoader loader
        { s.loader loader with reportAge := max (s.loader loader).reportAge Config.driveLostAge }).faultLoader
        loader .driveLost
    else s)

end Sys2Proof.Machine
end

