-- ==== Sys2Proof/Machine/FieldUnit.lean ====
section
/-! DEFINITION. Machine/FieldUnit.lean: the requests of the Field Unit: LINE_CONFIG (R142), LINE_LOCK (R143) and LINE_ACK (R144);
a change of a filtered level and a sample of a line (R139 to R141); the receivers of the drive ports (R146, R147) and the
sending of travel orders (R146, R148). -/

namespace Sys2Proof.Machine

/-! ### Condition lines -/

/-- A line as answers give it (R142, R149). -/
def LineRecord.view (r : LineRecord) : LineView := ⟨r.mode, r.enabled, r.exponent, r.filtered, r.condition⟩
/-- A line record after an accepted LINE_CONFIG (R142). -/
def LineRecord.configured (r : LineRecord) (mode : LineMode) (enable : Bool) (exponent : Nat) : LineRecord :=
  { mode := mode
    enabled := enable
    exponent := exponent
    filtered := r.filtered
    runCount := if exponent = r.exponent then r.runCount else 0
    condition := r.conditionConfigured mode enable }
/-- LINE_CONFIG by the Field Unit (R142). -/
def doLineConfig (line mode : Nat) (enable : Bool) (exponent : Nat) (s : State) : Reply :=
  if s.lines.locked then .refused .locked s
  else
    match modeOf mode with
    | none => .refused .range s
    | some m =>
      if line ≤ 15 ∧ exponent ≤ 7 then
        .done (.line ((s.line line).configured m enable exponent).view)
          (s.setLine line ((s.line line).configured m enable exponent))
      else .refused .range s
/-- LINE_CONFIG (R142). -/
def execLineConfig (tag : Byte) (line mode : Nat) (enable : Bool) (exponent : Nat) (s : State) :
    Host.Outcome State Fault Refusal :=
  takeRequest .terminal tag (.lineConfig tag line mode enable exponent) (doLineConfig line mode enable exponent) s

/-- LINE_LOCK by the Field Unit (R143). -/
def doLineLock (s : State) : Reply :=
  if s.lines.locked then .refused .locked s else .done .empty (s.withLines { s.lines with locked := true })
/-- LINE_LOCK (R143). -/
def execLineLock (tag : Byte) (s : State) : Host.Outcome State Fault Refusal :=
  takeRequest .terminal tag (.lineLock tag) doLineLock s

/-- LINE_ACK by the Field Unit (R144). -/
def doLineAck (line : Nat) (s : State) : Reply :=
  if 15 < line then .refused .range s
  else if (s.line line).mode.isLevel then .refused .state s
  else .done (.wasAsserted (s.cond line)) (s.setLine line { s.line line with condition := false })
/-- LINE_ACK (R144). -/
def execLineAck (tag : Byte) (line : Nat) (s : State) : Host.Outcome State Fault Refusal :=
  takeRequest .terminal tag (.lineAck tag line) (doLineAck line) s

/-- The raw level of a line becomes high or low (R138). -/
def State.showLevel (s : State) (i : Nat) (high : Bool) : State := s.withLines { s.lines with raw := s.lines.raw.set i high }
/-- The line shows a level and is sampled at this reading of the time base (R139). -/
def State.noteSample (s : State) (i : Nat) (high : Bool) : State :=
  s.withLines { s.lines with raw := s.lines.raw.set i high, sampled := s.lines.sampled.set i true }
/-- CONDITION_CHANGE: the sample at which the filtered level of a line changes to a level, and the condition formed from it
is handed on when it has changed (R140, R141, log 13). A level that the line already shows is no change. -/
def execConditionChange (line : Fin 16) (high : Bool) (s : State) : Host.Outcome State Fault Refusal :=
  s.powered fun s => .next
    (if high = (s.line line).filtered then s else (s.noteSample line high).changeFiltered line high)
/-- LINE_SAMPLE: a line shows a level, and is sampled when the reading of the time base is one at which it is to be sampled
(R139, log 13). At any other moment the level is seen only by the samples that follow. -/
def execLineSample (line : Fin 16) (high : Bool) (s : State) : Host.Outcome State Fault Refusal :=
  s.powered fun s => .next
    (if s.sampling line then (s.noteSample line high).sampleLine line high else s.showLevel line high)

/-! ### Position reports: the frame and the receiver (R146, R147) -/

/-- The drive status of a status byte (R146). -/
def statusOf : Nat → Option DriveStatus
  | 0 => some .ready
  | 1 => some .moving
  | 2 => some .halted
  | 3 => some .fault
  | _ => none
/-- The report that the nine bytes after a sync byte spell; none when the check does not match or the status is not one of
the four (R146, R147). -/
def readReport : List Byte → Option Report
  | [st, x3, x2, x1, x0, y1, y0, c1, c0] =>
    if halfBytes (crc16 [st, x3, x2, x1, x0, y1, y0]) = [c1, c0] then
      (statusOf st.toNat).map fun d =>
        ⟨((x3.toNat * 256 + x2.toNat) * 256 + x1.toNat) * 256 + x0.toNat, y1.toNat * 256 + y0.toNat, d⟩
    else none
  | _ => none
/-- The receiver after a frame is discarded: it hunts from the byte after the frame's sync byte (R147). A sync byte found
there begins a new frame with the bytes behind it. -/
def rescan : List Byte → DriveReceiver
  | [] => .hunting
  | b :: rest => if b = 0x3C#8 then .collecting rest else rescan rest
/-- The receiver after one byte, and the report that the byte completed (R147). -/
def DriveReceiver.take (r : DriveReceiver) (b : Byte) : DriveReceiver × Option Report :=
  match r with
  | .hunting => (if b = 0x3C#8 then .collecting [] else .hunting, none)
  | .collecting g =>
    if (g ++ [b]).length < 9 then (.collecting (g ++ [b]), none)
    else
      match readReport (g ++ [b]) with
      | some rep => (.hunting, some rep)
      | none => (rescan (g ++ [b]), none)
/-- A port's receiver replaced. -/
def State.setReceiver (s : State) (l : Loader) (r : DriveReceiver) : State :=
  s.withPort l { s.port l with receiver := r }
/-- One byte received on a drive port; a report it completes is handed to Loader Travel (R147). -/
def State.portByte (l : Loader) (s : State) (b : Byte) : State :=
  match (s.port l).receiver.take b with
  | (r, some rep) => (s.setReceiver l r).takeReport l rep
  | (r, none) => s.setReceiver l r
/-- The frame being collected is discarded (R147). -/
def State.discardFrame (s : State) (l : Loader) : State :=
  match (s.port l).receiver with
  | .hunting => s
  | .collecting g => s.setReceiver l (rescan g)
/-- SYNC_BYTE_RECEIVED: a byte 0x3C arrives (R147, log 12). -/
def execSyncByteReceived (loader : Loader) (s : State) : Host.Outcome State Fault Refusal :=
  s.powered fun s => .next (s.portByte loader 0x3C#8)
/-- DRIVE_FRAME_DISCARDED: the bytes of a frame arrive and fail their test (R147, log 12). -/
def execDriveFrameDiscarded (loader : Loader) (bytes : List Byte) (s : State) : Host.Outcome State Fault Refusal :=
  s.powered fun s => .next (bytes.foldl (State.portByte loader) s)
/-- DRIVE_FRAME_TIMEOUT: the frame is not complete within 5 ms of its sync byte (R147). -/
def execDriveFrameTimeout (loader : Loader) (s : State) : Host.Outcome State Fault Refusal :=
  s.powered fun s => .next (s.discardFrame loader)
/-- DRIVE_FRAMING_ERROR: a byte with a framing error is discarded together with the frame it belongs to (R147). R147 does not say
whether the byte also belongs to, and ends, an inner frame that the scan then finds: here it belongs to the outer frame alone, and
the inner frame goes on collecting without it (DESIGN CHOICE, log 12). -/
def execDriveFramingError (loader : Loader) (s : State) : Host.Outcome State Fault Refusal :=
  s.powered fun s => .next (s.discardFrame loader)

/-! ### Travel orders: the frame and the sending (R146, R148) -/

/-- The kind byte of a travel order (R146). -/
def Order.kind : Order → Nat
  | .go _ _ => 1
  | .stop => 2
  | .lower _ => 3
  | .raise => 4
/-- The position and outreach fields of a travel order (R146). -/
def Order.fields : Order → List Byte
  | .go x y => u32 x ++ u16 y
  | .stop => u32 0 ++ u16 0
  | .lower tip => i32 tip ++ u16 0
  | .raise => u32 0 ++ u16 0
/-- The bytes 1 to 9 of a travel order's frame, which the check covers (R146). -/
def orderBody (number : Half) (o : Order) : List Byte := u8 o.kind ++ halfBytes number ++ o.fields
/-- The twelve bytes of a travel order's frame (R146). -/
def orderFrame (number : Half) (o : Order) : List Byte :=
  [0xC3#8] ++ orderBody number o ++ halfBytes (crc16 (orderBody number o))
/-- ORDER_FRAME_SENT: the frame being sent is finished, and the order at the head of the queue is numbered and sent
(R148). -/
def execOrderFrameSent (loader : Loader) (s : State) : Host.Outcome State Fault Refusal :=
  s.powered fun s => .next
    (match (s.port loader).sending with
    | some _ => s.withPort loader { s.port loader with sending := none }.start
    | none => s)

end Sys2Proof.Machine
end

