-- ==== Sys2Proof/Machine/Frames.lean ====
section
/-! DEFINITION. Machine/Frames.lean: the frames that the part sends on the master links: the numbers of the answer codes and of
the enumerations, the answer bodies (R154, R159), the notice body (R164, R166), the frame layout and the stuffing (R152).
Where a description names an answer's fields without an order or a width, the order is that of its sentences (log 10); the
fields sent as flags, as seconds, in groups without a count byte or under one presence byte are chosen in log 34. -/

namespace Sys2Proof.Machine

/-! ### Enumerations, numbered from 0 in the order of their rules (R154) -/

/-- The number of an answer code (R159). -/
def AnswerCode.number : AnswerCode → Nat
  | .done => 0 | .denied => 1 | .unknown => 2 | .malformed => 3 | .full => 4 | .range => 5 | .state => 6
  | .noRoom => 7 | .held => 8 | .occupied => 9 | .noMooring => 10 | .noHold => 11 | .noPoint => 12 | .reach => 13
  | .zone => 14 | .noLevel => 15 | .dust => 16 | .locked => 17 | .lot => 18 | .metrology => 19 | .tooLate => 20
  | .beltBusy => 21
/-- The plan state (R2). -/
def PlanState.number : PlanState → Nat
  | .empty => 0 | .draft => 1 | .submitted => 2 | .accepted => 3
/-- The step state (R3). -/
def StepState.number : StepState → Nat
  | .pending => 0 | .consentWait => 1 | .feeding => 2 | .suspended => 3 | .cutoff => 4 | .done => 5 | .skipped => 6
/-- The run-out cause and the end cause (R2, R3). -/
def EndCause.number : EndCause → Nat
  | .target => 0 | .lotOrder => 1 | .ended => 2
/-- The reason of a suspension set (R3). -/
def Reason.number : Reason → Nat
  | .terminal => 0 | .vessel => 1 | .dust => 2 | .estop => 3 | .belt => 4 | .link => 5 | .loader => 6 | .queue => 7
  | .gate => 8
/-- L1 and L2 (R49, R164). -/
def loaderNumber : Loader → Nat
  | .l1 => 0 | .l2 => 1
/-- A loader's number as a number field, 1 or 2 (00 Numbering). -/
def loaderField : Loader → Nat
  | .l1 => 1 | .l2 => 2
/-- Z1, Z2 and Z3 (R123, R164). -/
def zoneNumber : Zone → Nat
  | .z1 => 0 | .z2 => 1 | .z3 => 2
/-- The links (R150, R164). -/
def linkNumber : Link → Nat
  | .terminal => 0 | .vessel => 1 | .survey => 2
/-- The travel state (R49). -/
def TravelState.number : TravelState → Nat
  | .unreported => 0 | .idle => 1 | .travel => 2 | .aligned => 3 | .lowering => 4 | .lowered => 5 | .raising => 6
  | .fault => 7
/-- The fault cause (R49). -/
def FaultCause.number : FaultCause → Nat
  | .travelTime => 0 | .spoutTime => 1 | .drift => 2 | .driveLost => 3 | .driveFault => 4 | .estop => 5 | .dust => 6
/-- The drive status (R49). -/
def driveStatusNumber : DriveStatus → Nat
  | .ready => 0 | .moving => 1 | .halted => 2 | .fault => 3
/-- The gate demand (R68). -/
def GateDemand.number : GateDemand → Nat
  | .closed => 0 | .trim => 1 | .full => 2
/-- The gate state (R68). -/
def GateState.number : GateState → Nat
  | .opened => 0 | .closing => 1 | .closed => 2 | .fault => 3
/-- The diverter state (R78). -/
def DiverterState.number : DiverterState → Nat
  | .atL1 => 0 | .atL2 => 1 | .atReturn => 2 | .moving => 3 | .unknown => 4
/-- The flap command (R78). -/
def FlapTarget.number : FlapTarget → Nat
  | .l1 => 0 | .l2 => 1 | .chute => 2
/-- The lot state (R107). -/
def LotState.number : LotState → Nat
  | .free => 0 | .opened => 1 | .closing => 2 | .closed => 3
/-- The restart kind (R164). -/
def RestartKind.number : RestartKind → Nat
  | .warmLine => 0 | .warmPower => 1 | .clearLine => 2 | .clearBank => 3
/-- The zone state (R123). -/
def ZoneState.number : ZoneState → Nat
  | .clear => 0 | .warn => 1 | .alarm => 2 | .purge => 3 | .lockout => 4
/-- The restriction level (R123). -/
def Restriction.number : Restriction → Nat
  | .none => 0 | .trim => 1 | .stop => 2
/-- The mode of a line (R138). -/
def LineMode.number : LineMode → Nat
  | .high => 0 | .low => 1 | .rising => 2 | .falling => 3 | .both => 4
/-- The orientation (R33). -/
def Orientation.number : Orientation → Nat
  | .bowUpstream => 0 | .bowDownstream => 1
/-- The break state (R150). -/
def BreakState.number : BreakState → Nat
  | .marking => 0 | .broken => 1
/-- The source of an EQUIPMENT_FAULT (R164). -/
def FaultSource.number : FaultSource → Nat
  | .loader l => loaderNumber l
  | .gate => 2
  | .diverter => 3
  | .queue => 4

/-! ### Fields of a body (R154) -/

/-- An optional field: a presence byte, and the field when present. -/
def maybe {α : Type} (enc : α → List Byte) : Option α → List Byte
  | none => flag false
  | some a => flag true ++ enc a
/-- A list or a set: a count byte, and the elements in order. -/
def listOf {α : Type} (enc : α → List Byte) (l : List α) : List Byte := u8 l.length ++ l.flatMap enc
/-- A 32-bit quantity as a four-byte number. -/
def word (w : Word) : List Byte := u32 w.toNat
/-- An event's detail: one byte, or none for METROLOGY_ATTEMPT (R164). -/
def Event.detail : Event → List Byte
  | .dustWarn z => u8 (zoneNumber z)
  | .dustAlarm z => u8 (zoneNumber z)
  | .dustLockout z => u8 (zoneNumber z)
  | .dustClear z => u8 (zoneNumber z)
  | .stepState n => u8 n
  | .consentAsk n => u8 n
  | .consentLapse n => u8 n
  | .staleWindow l => u8 (loaderNumber l)
  | .offPlan h => u8 h
  | .spill r => u8 r
  | .lotState n => u8 n
  | .equipmentFault f => u8 f.number
  | .linkLost k => u8 (linkNumber k)
  | .levelAged h => u8 h
  | .metrologyAttempt => []
  | .restart k => u8 k.number
/-- The reasons of a suspension set, in the order of R3. -/
def ReasonSet.list (r : ReasonSet) : List Reason :=
  [Reason.terminal, .vessel, .dust, .estop, .belt, .link, .loader, .queue, .gate].filter fun x => r.has x
/-- A suspension set, as a set. -/
def ReasonSet.bytes (r : ReasonSet) : List Byte := listOf (fun x : Reason => u8 x.number) r.list
/-- A position in berth coordinates: X in four bytes, Y in two. -/
def Position.bytes (p : Position) : List Byte := u32 p.x ++ u16 p.y
/-- A cache key. -/
def Key.bytes (k : Key) : List Byte := u8 k.hold ++ u8 k.point
/-- A claim: two bounds that may be negative. -/
def Claim.bytes (c : Claim) : List Byte := i32 c.lower ++ i32 c.upper
/-- A consent window record (R2). -/
def ConsentWindow.bytes (w : ConsentWindow) : List Byte := u8 w.step ++ u8 w.number ++ u32 w.remaining
/-- A run-out record (R2). -/
def RunOut.bytes (r : RunOut) : List Byte := u8 r.step ++ u8 r.cause.number ++ maybe word r.mark
/-- A step record, every field of R3. -/
def StepRecord.bytes (st : StepRecord) : List Byte :=
  u8 st.id ++ u8 st.hold ++ u8 st.point ++ u8 (loaderField st.loader) ++ u8 st.lot ++ u32 st.target
    ++ flag st.consentRequired ++ flag st.accepted ++ u8 st.state.number ++ u32 st.delivered ++ st.suspension.bytes
    ++ maybe (fun c : EndCause => u8 c.number) st.endCause ++ flag st.lapseMark
/-- The plan summary of PLAN_READ (R26); W is two bytes of seconds, and one presence byte stands before each of the consent
window record and the run-out record as a whole (log 34). -/
def PlanSummary.bytes (p : PlanSummary) : List Byte :=
  u8 p.state.number ++ u8 p.count ++ u16 p.idCounter ++ u16 p.windowLength ++ maybe u8 p.current ++ maybe u8 p.tag
    ++ maybe ConsentWindow.bytes p.window ++ maybe RunOut.bytes p.runOut
/-- The outcome of a probe record, numbered in the order of R48. -/
def probeOutcome : AnswerCode → Nat
  | .occupied => 1
  | .noMooring => 2
  | .noHold => 3
  | .noPoint => 4
  | .reach => 5
  | .zone => 6
  | _ => 0
/-- The probe record of PROBE (R48): one presence byte stands before X and Y together, which R48 lists as one row (log 34); X
may be negative, Y lies in 0..45,000 mm (R36), HIT is 0 and MISS is 1 (log 10). -/
def ProbeRecord.bytes (r : ProbeRecord) : List Byte :=
  u8 (probeOutcome r.outcome) ++ maybe (fun q : Int × Int => i32 q.1 ++ u16 q.2.toNat) r.at_
    ++ maybe (fun h : Bool => u8 (if h then 0 else 1)) r.hit ++ maybe u8 r.zone
    ++ maybe u8 r.entry ++ maybe (fun l => u8 (loaderNumber l)) r.holder
/-- The pinned entry of LOADER_READ (R67). -/
def PinView.bytes (p : PinView) : List Byte := u8 p.index ++ p.key.bytes ++ p.at_.bytes ++ flag p.stale
/-- A position report's X, Y and drive status (R49). -/
def Report.bytes (r : Report) : List Byte := u32 r.x ++ u16 r.y ++ u8 (driveStatusNumber r.status)
/-- The answer of LOADER_READ (R67); one presence byte stands before each of the pinned entry, the claim, the target and the
last report as a whole (log 34). -/
def LoaderView.bytes (v : LoaderView) : List Byte :=
  u8 v.record.state.number ++ maybe (fun c : FaultCause => u8 c.number) v.record.cause ++ maybe PinView.bytes v.pin
    ++ maybe Claim.bytes v.record.claim ++ maybe Position.bytes v.record.target ++ maybe i16 v.record.tipLimit
    ++ maybe Report.bytes v.record.lastReport ++ u32 v.record.reportAge ++ u8 v.record.alignCount
    ++ maybe u32 v.record.travelTimer ++ maybe u32 v.record.spoutTimer ++ u8 v.level.number ++ flag v.spoutUp
    ++ flag v.spoutDown ++ flag v.estop
/-- A parcel record (R92). -/
def Parcel.bytes (p : Parcel) : List Byte :=
  word p.seq ++ maybe u8 p.tag ++ maybe u8 p.lot ++ u32 p.mass ++ word p.launch
/-- The answer of QUEUE_READ (R105); one presence byte stands before the open parcel with its distance, and the eight in-transit
masses stand without a count byte (log 34). -/
def QueueView.bytes (v : QueueView) : List Byte :=
  word v.position ++ u16 v.count ++ flag v.condition ++ maybe u32 v.headDistance
    ++ maybe (fun p : ParcelView => p.parcel.bytes ++ u32 p.distance) v.openParcel ++ v.inTransit.flatMap u32
    ++ u32 v.unassigned
/-- The SUMMARY part of BOOK_READ (R117): the fields that record 0 does not have, the lot state among them, are optional fields
(log 34). A sum, or an order balance, that four bytes cannot hold has free bytes (log 35). -/
def BookSummary.bytes (b : BookSummary) : List Byte :=
  maybe (fun st : LotState => u8 st.number) b.state ++ maybe byteList b.reference ++ maybe u32 b.ordered ++ u32 b.weighed
    ++ u32 b.deliveredSum ++ u32 b.returned ++ u32 b.spill ++ u32 b.unresolved ++ u32 b.inTransit ++ u32 b.residue
    ++ u32 b.loaded ++ maybe i32 b.balance
/-- The closing record (R115); the twelve values of each list stand without a count byte (log 34). -/
def ClosingRecord.bytes (c : ClosingRecord) : List Byte :=
  u32 c.weighed ++ u32 c.deliveredSum ++ c.delivered.flatMap u32 ++ c.offPlan.flatMap u32 ++ u32 c.returned
    ++ u32 c.spill ++ u32 c.unresolved ++ u32 c.forfeited ++ u8 c.quantum ++ u32 c.span
/-- A line as answers give it (R142, R149): the enable, the filtered level and the condition are flags, 1 for on, high and
asserted (log 34). -/
def LineView.bytes (v : LineView) : List Byte :=
  u8 v.mode.number ++ flag v.enabled ++ u8 v.exponent ++ flag v.filtered ++ flag v.condition
/-- A pending class of FETCH_EVENTS: its code, its last detail and its count (R167). -/
def PendingEntry.bytes (p : PendingEntry) : List Byte := u8 p.last.code ++ p.last.detail ++ u8 p.count
/-- The answer of FETCH_EVENTS (R167): the pending set, as a set of class codes, and then the list of its classes with their last
details and counts. -/
def eventsBytes (es : List PendingEntry) : List Byte :=
  listOf (fun p : PendingEntry => u8 p.last.code) es ++ listOf PendingEntry.bytes es
/-- The codes of the classes of a route set, in code order. -/
def routeCodes (routes : List Bool) : List Nat :=
  (List.range 16).filter fun c => (routes[c]?).getD false
/-- A keep-out zone (R34); its enable is a flag (log 34). -/
def KeepOut.bytes (z : KeepOut) : List Byte :=
  flag z.enabled ++ u32 z.xmin ++ u32 z.xmax ++ u16 z.ymin ++ u16 z.ymax
/-- A mooring record (R33). -/
def Mooring.bytes (m : Mooring) : List Byte := u32 m.sternX ++ u16 m.fender ++ u8 m.orientation.number
/-- A cache entry of the HATCH section (R163): the key as a whole and the pinning loader each have a presence byte
(log 34). -/
def EntryView.bytes : EntryView → List Byte
  | .invalid => u8 0 ++ flag false ++ flag false
  | .valid k => u8 1 ++ flag true ++ k.bytes ++ flag false
  | .pinned k l => u8 2 ++ flag true ++ k.bytes ++ flag true ++ u8 (loaderNumber l)
  | .stale k l => u8 3 ++ flag true ++ k.bytes ++ flag true ++ u8 (loaderNumber l)
/-- A link of the LINKS section (R163). -/
def LinkView.bytes (v : LinkView) : List Byte :=
  u8 (if v.up then 0 else 1) ++ maybe u32 v.silence ++ u8 v.requests ++ u8 v.frames ++ u8 v.brk.number
/-- A zone of the DUST section (R137): the latch and the ages are two bytes of seconds (logs 10, 34). -/
def ZoneView.bytes (v : ZoneView) : List Byte :=
  u8 v.state.number ++ u8 v.level.number ++ maybe u32 v.timer ++ u16 v.latch
    ++ listOf (fun q : Word × Nat => word q.1 ++ u16 q.2) v.history ++ flag v.warn ++ flag v.alarm
/-- The metrology record (R84). -/
def Metrology.bytes (m : Metrology) : List Byte := u8 m.quantum ++ u32 m.span ++ flag m.locked
/-- The belt configuration (R87). -/
def BeltConfig.bytes (c : BeltConfig) : List Byte :=
  u8 c.pitch ++ u32 c.transit ++ u16 c.length ++ u32 c.runOut ++ u16 c.tail ++ u16 c.band
/-- The quantities of R102 as last evaluated (R105); one presence byte stands before them as a whole (log 34). -/
def Evaluation.bytes (e : Evaluation) : List Byte :=
  u32 e.onBelt ++ u32 e.committed ++ i32 e.stepRemaining ++ maybe i32 e.lotRemaining ++ i32 e.effective
/-- A section of STATUS (R163): groups of a fixed number of values stand without a count byte, a level's age is two bytes of
seconds, the conditions and the presence of a hold are flags, the bit rate is a number of four bytes, and one presence byte
stands before a mooring record or a level with its age (log 34). -/
def StatusView.bytes : StatusView → List Byte
  | .links fast role ls =>
    u32 (if fast then 460800 else 115200) ++ u8 (linkNumber role) ++ ls.terminal.bytes ++ ls.vessel.bytes
      ++ ls.survey.bytes
  | .hatch m zs present levels ptr es =>
    maybe Mooring.bytes m ++ zs.flatMap KeepOut.bytes ++ present.flatMap flag
      ++ levels.flatMap (maybe fun q : Int × Nat => i16 q.1 ++ u16 q.2) ++ u8 ptr ++ es.flatMap EntryView.bytes
  | .gate d st t f mark div cmd mt lapse conds trim =>
    u8 d.number ++ u8 st.number ++ maybe u32 t ++ flag f ++ maybe u8 mark ++ u8 div.number
      ++ maybe (fun c : FlapTarget => u8 c.number) cmd ++ maybe u32 mt ++ flag lapse ++ conds.flatMap flag ++ flag trim
  | .weighing m c p q tag trim cond n e =>
    m.bytes ++ c.bytes ++ word p ++ word q ++ maybe u8 tag ++ flag trim ++ flag cond ++ u16 n
      ++ maybe Evaluation.bytes e
  | .book sts un k => sts.flatMap (fun st : LotState => u8 st.number) ++ u32 un ++ u8 k.number
  | .dust zs l1 l2 cur =>
    zs.z1.bytes ++ zs.z2.bytes ++ zs.z3.bytes ++ u8 l1.number ++ u8 l2.number
      ++ maybe (fun r : Restriction => u8 r.number) cur
  | .field ls locked c1 n1 c2 n2 =>
    ls.flatMap LineView.bytes ++ flag locked ++ halfBytes c1 ++ u8 n1 ++ halfBytes c2 ++ u8 n2
/-- The body of an answer's record (R154, R159). The twelve values of each list of HOLDS stand without a count byte; CONSENT's
reasons follow one presence byte, and CLOSING gives the presence byte of the closing record before the record and, where it
is absent, after the lot state, in the order of R117 (logs 10, 34). -/
def AnswerRecord.bytes : AnswerRecord → List Byte
  | .empty => []
  | .counts i st => u8 i ++ u8 st
  | .count n => u8 n
  | .stepId i => u8 i
  | .entered st => u8 st.number
  | .granted st rs => u8 st.number ++ (if st = .suspended then flag true ++ rs.bytes else flag false)
  | .reasons rs => rs.bytes
  | .clamp c => flag c
  | .probe r => r.bytes
  | .moved t e => t.bytes ++ u8 e
  | .claim c => c.bytes
  | .tipLimit v => i16 v
  | .diverter st => u8 st.number
  | .plan p rs => p.bytes ++ listOf StepRecord.bytes rs
  | .loader v => v.bytes
  | .queue v => v.bytes
  | .closePending p => flag p
  | .bookSummary b => b.bytes
  | .bookHolds d o => d.flatMap u32 ++ o.flatMap u32
  | .bookClosing c => flag true ++ c.bytes
  | .bookNotClosed st => u8 st.number ++ flag false
  | .line v => v.bytes
  | .wasAsserted a => flag a
  | .events es => eventsBytes es
  | .routes rs => listOf u8 (routeCodes rs)
  | .status v => v.bytes

/-! ### The frame and its stuffing (R152) -/

/-- The bytes from the kind to the body of a frame, which the check covers (R152). -/
def frameCore (kind : Byte) (tag : Byte) (code : Nat) (body : List Byte) : List Byte :=
  [kind, tag] ++ u8 code ++ u8 body.length ++ body
/-- A byte after stuffing (R152). -/
def stuffByte (b : Byte) : List Byte := if b = 0x7E#8 ∨ b = 0x7D#8 then [0x7D#8, b ^^^ 0x20#8] else [b]
/-- The bytes on the line of a frame: the marker, then the stuffed bytes with the check (R152). -/
def frameOnLine (core : List Byte) : List Byte := 0x7E#8 :: (core ++ halfBytes (crc16 core)).flatMap stuffByte
/-- The bytes on the line of a request (R152, R154, R156). -/
def requestOnLine (tag : Byte) (code : Nat) (body : List Byte) : List Byte :=
  frameOnLine (frameCore 0x01#8 tag code body)
/-- The bytes on the line of a frame of an output queue (R152, R155, R166); a reserved place sends none. -/
def OutFrame.onLine : OutFrame → List Byte
  | .answer tag code record => frameOnLine (frameCore 0x02#8 tag code.number record.bytes)
  | .refusal tag code request => frameOnLine (frameCore 0x02#8 tag code.number [request])
  | .notice e => frameOnLine (frameCore 0x03#8 0#8 e.code e.detail)
  | .reserved _ => []

end Sys2Proof.Machine
end

