-- ==== Sys2Proof/Machine/PourPlan.lean ====
section
/-! DEFINITION. Machine/PourPlan.lean: the requests of the Pour Plan (R5 to R12, R16 to R18, R20 to R22, R25, R26) and the
expiry of a consent window (R15). -/

namespace Sys2Proof.Machine

/-! ### Editing the list (R5 to R8) -/

/-- The plan state replaced. -/
def State.setPlanState (s : State) (p : PlanState) : State := s.withPlan { s.plan with state := p }
/-- The list admits edits: it is neither EMPTY nor SUBMITTED (R6, R7, R8). -/
def State.editable (s : State) : Bool := s.plan.state == .draft || s.plan.state == .accepted
/-- A step placed immediately before the first step with an id. -/
def insertBefore (new : StepRecord) (id : Nat) : List StepRecord → List StepRecord
  | [] => [new]
  | st :: rest => if st.id = id then new :: st :: rest else st :: insertBefore new id rest
/-- The list with a step placed at a position; none is "end" (R5). -/
def insertAt (new : StepRecord) (steps : List StepRecord) : Option Nat → List StepRecord
  | none => steps ++ [new]
  | some id => insertBefore new id steps
/-- A step record as STEP_INSERT builds it (R5). -/
def newStep (id hold point : Nat) (l : Loader) (lot target : Nat) (consent : Bool) : StepRecord :=
  ⟨id, hold, point, l, lot, target, consent, false, .pending, 0, ReasonSet.none, none, false⟩
/-- Check 4 of STEP_INSERT: the position is "end" or an id in the list (R5). -/
def State.positionKnown (s : State) : Option Nat → Bool
  | none => true
  | some id => (s.step? id).isSome
/-- Check 5 of STEP_INSERT: every step from the named one on is PENDING (R5). -/
def State.positionPending (s : State) : Option Nat → Bool
  | none => true
  | some id => (s.plan.steps.dropWhile fun st => st.id != id).all fun st => st.state == .pending
/-- Check 2 of STEP_INSERT (R3, R5). -/
def stepFieldsOk (hold point loader lot target : Nat) : Bool :=
  holdOk hold && pointOk point && loaderOk loader && lotOk lot && targetOk target
/-- The plan after an accepted insertion (R4, R5). -/
def State.insertStep (s : State) (new : StepRecord) (before : Option Nat) : State :=
  s.withPlan
    { s.plan with
      state := if s.plan.state = .empty then .draft else s.plan.state
      steps := insertAt new s.plan.steps before
      idCounter := s.plan.idCounter + 1 }
/-- STEP_INSERT by the Pour Plan (R5). -/
def doStepInsert (before : Option Nat) (hold point loader lot target : Nat) (consent : Bool) (s : State) : Reply :=
  if s.plan.state = .submitted then .refused .state s
  else
    match loaderOf loader with
    | none => .refused .range s
    | some l =>
      if !stepFieldsOk hold point loader lot target then .refused .range s
      else if Config.maxSteps ≤ s.plan.steps.length ∨ Config.idsExhausted ≤ s.plan.idCounter then .refused .noRoom s
      else if !s.positionKnown before then .refused .state s
      else if s.plan.state = .accepted ∧ s.positionPending before = false then .refused .state s
      else
        .done (.stepId s.plan.idCounter)
          (s.insertStep (newStep s.plan.idCounter hold point l lot target consent) before)
/-- STEP_INSERT (R5). -/
def execStepInsert (tag : Byte) (before : Option Nat) (hold point loader lot target : Nat) (consent : Bool)
    (s : State) : Host.Outcome State Fault Refusal :=
  takeRequest .vessel tag (.stepInsert tag before hold point loader lot target consent)
    (doStepInsert before hold point loader lot target consent) s

/-- The PENDING step that STEP_DELETE or STEP_SKIP may act on (R6, R7). -/
def State.pendingStep? (s : State) (id : Nat) : Option StepRecord :=
  if s.editable then (s.step? id).filter fun st => st.state == .pending else none
/-- The list without the step of an id; an emptied list makes the plan EMPTY (R6). -/
def State.dropStep (s : State) (id : Nat) : State :=
  s.withPlan
    { s.plan with
      state := if (s.plan.steps.eraseP fun st => st.id == id).isEmpty then .empty else s.plan.state
      steps := s.plan.steps.eraseP fun st => st.id == id }
/-- STEP_DELETE by the Pour Plan (R6). -/
def doStepDelete (id : Nat) (s : State) : Reply :=
  match s.pendingStep? id with
  | none => .refused .state s
  | some _ => .done .empty (s.dropStep id)
/-- STEP_DELETE (R6). -/
def execStepDelete (tag : Byte) (step : Nat) (s : State) : Host.Outcome State Fault Refusal :=
  takeRequest .vessel tag (.stepDelete tag step) (doStepDelete step) s

/-- STEP_SKIP by the Pour Plan (R7). -/
def doStepSkip (id : Nat) (s : State) : Reply :=
  match s.pendingStep? id with
  | none => .refused .state s
  | some _ => .done .empty ((s.changeStep id fun st => { st with state := .skipped }).formDemand)
/-- STEP_SKIP (R7). -/
def execStepSkip (tag : Byte) (step : Nat) (s : State) : Host.Outcome State Fault Refusal :=
  takeRequest .vessel tag (.stepSkip tag step) (doStepSkip step) s

/-- A PENDING step with one field amended; its accepted flag is cleared (R8). -/
def StepRecord.amended (st : StepRecord) (f : AmendField) (v : Nat) : StepRecord :=
  match f with
  | .hold => { st with hold := v, accepted := false }
  | .point => { st with point := v, accepted := false }
  | .loader => { st with loader := (loaderOf v).getD st.loader, accepted := false }
  | .lot => { st with lot := v, accepted := false }
  | .target => { st with target := v, accepted := false }
  | .consent => { st with consentRequired := v == 1, accepted := false }
/-- A step's target replaced. -/
def State.setTarget (s : State) (id target : Nat) : State := s.modifyStep id fun st => { st with target := target }
/-- A target amendment of the current step (R25). The committed mass is that of the step. -/
def State.amendTarget (s : State) (st : StepRecord) (target : Nat) : Reply :=
  if st.isRunning then
    if (target : Int) - (s.weigh.config.tail : Int) ≤ ((s.evaluation st).committed : Int) then
      .done (.clamp true)
        ((s.setTarget st.id ((s.evaluation st).committed + s.weigh.config.tail)).evaluate.formDemand)
    else .done (.clamp false) ((s.setTarget st.id target).evaluate.formDemand)
  else if (target : Int) - (s.weigh.config.tail : Int) ≤ 0 then .refused .range s
  else .done .empty (s.setTarget st.id target)
/-- STEP_AMEND by the Pour Plan (R8). -/
def doStepAmend (id field value : Nat) (s : State) : Reply :=
  if !s.editable then .refused .state s
  else
    match s.step? id with
    | none => .refused .state s
    | some st =>
      match amendFieldOf field with
      | none => .refused .range s
      | some f =>
        if !amendValueOk f value then .refused .range s
        else if st.state = .pending then
          .done .empty (s.modifyStep id fun q => q.amended f value)
        else if st.isCurrent = true ∧ f = .target then s.amendTarget st value
        else .refused .state s
/-- STEP_AMEND (R8, R25). -/
def execStepAmend (tag : Byte) (step field value : Nat) (s : State) : Host.Outcome State Fault Refusal :=
  takeRequest .vessel tag (.stepAmend tag step field value) (doStepAmend step field value) s

/-! ### Submission and acceptance (R9 to R11) -/

/-- PLAN_SUBMIT by the Pour Plan (R9). -/
def doPlanSubmit (s : State) : Reply :=
  if s.plan.state = .draft then .done .empty (s.setPlanState .submitted) else .refused .state s
/-- PLAN_SUBMIT (R9). -/
def execPlanSubmit (tag : Byte) (s : State) : Host.Outcome State Fault Refusal :=
  takeRequest .vessel tag (.planSubmit tag) doPlanSubmit s

/-- PLAN_WITHDRAW by the Pour Plan (R9). -/
def doPlanWithdraw (s : State) : Reply :=
  if s.plan.state = .submitted then .done .empty (s.setPlanState .draft) else .refused .state s
/-- PLAN_WITHDRAW (R9). -/
def execPlanWithdraw (tag : Byte) (s : State) : Host.Outcome State Fault Refusal :=
  takeRequest .vessel tag (.planWithdraw tag) doPlanWithdraw s

/-- Every step's accepted flag given a value (R10). -/
def State.flagSteps (s : State) (accepted : Bool) : State :=
  s.withPlan { s.plan with steps := s.plan.steps.map fun st => { st with accepted := accepted } }
/-- PLAN_ACCEPT by the Pour Plan (R10). -/
def doPlanAccept (s : State) : Reply :=
  if s.plan.state = .submitted ∨ s.plan.state = .accepted then
    .done .empty ((s.flagSteps true).setPlanState .accepted)
  else .refused .state s
/-- PLAN_ACCEPT (R10). -/
def execPlanAccept (tag : Byte) (s : State) : Host.Outcome State Fault Refusal :=
  takeRequest .terminal tag (.planAccept tag) doPlanAccept s

/-- PLAN_RETURN by the Pour Plan (R10). -/
def doPlanReturn (s : State) : Reply :=
  if s.plan.state = .submitted then
    .done .empty ((s.flagSteps false).setPlanState .draft)
  else .refused .state s
/-- PLAN_RETURN (R10). -/
def execPlanReturn (tag : Byte) (s : State) : Host.Outcome State Fault Refusal :=
  takeRequest .terminal tag (.planReturn tag) doPlanReturn s

/-- The plan as PLAN_CLEAR leaves it: the window length is kept (R11). -/
def Plan.cleared (p : Plan) : Plan :=
  { p with state := .empty, steps := [], idCounter := 1, asked := [] }
/-- The tag of every queued parcel is removed, each keeping its lot (R94). -/
def Weigh.untagged (w : Weigh) : Weigh :=
  { w with queue := w.queue.map fun p => { p with tag := none } }
/-- The effects of an accepted PLAN_CLEAR: the plan (R11), the parcels' tags (R94) and the aged-report mark (R71). -/
def State.clearPlan (s : State) : State :=
  ((s.withPlan s.plan.cleared).withWeigh s.weigh.untagged).withGate { s.gate with agedMark := none }
/-- PLAN_CLEAR by the Pour Plan (R11). -/
def doPlanClear (s : State) : Reply :=
  if s.plan.steps.any StepRecord.isLive then .refused .state s
  else .done .empty s.clearPlan
/-- PLAN_CLEAR (R11). -/
def execPlanClear (tag : Byte) (s : State) : Host.Outcome State Fault Refusal :=
  takeRequest .vessel tag (.planClear tag) doPlanClear s

/-! ### Starting a step and the consent exchange (R12 to R18) -/

/-- The consent window record replaced. -/
def State.setWindow (s : State) (w : Option ConsentWindow) : State := s.withPlan { s.plan with window := w }
/-- A window that starts now for a step: its remaining time is the window length in force (R14, R15). -/
def State.freshWindow (s : State) (id number : Nat) : ConsentWindow := ⟨id, number, s.plan.windowLength * 1000⟩
/-- The id joins the asked set (R4, R14). -/
def State.ask (s : State) (id : Nat) : State :=
  s.withPlan { s.plan with asked := if s.plan.asked.contains id then s.plan.asked else s.plan.asked ++ [id] }
/-- A step enters CONSENT_WAIT (R14): STEP_STATE, then CONSENT_ASK. -/
def State.enterConsent (s : State) (id : Nat) : State :=
  ((((s.ask id).setWindow (some (s.freshWindow id 1))).changeStep id fun st =>
    { st with state := .consentWait, lapseMark := false }).raise (.consentAsk id)).formDemand
/-- A step returns from CONSENT_WAIT to PENDING by a request; the window is stopped (R15, R17, R22). -/
def State.leaveConsent (s : State) (id : Nat) : State :=
  ((s.setWindow none).changeStep id fun st => { st with state := .pending }).formDemand
/-- The state of a step as an answer gives it. -/
def State.stateOf (s : State) (id : Nat) : StepState :=
  match s.step? id with
  | some st => st.state
  | none => .done
/-- The suspension set of a step as an answer gives it. -/
def State.reasonsOf (s : State) (id : Nat) : ReasonSet :=
  match s.step? id with
  | some st => st.suspension
  | none => ReasonSet.none

/-- Check 5 of STEP_START: the lot is OPEN (R12). -/
def State.lotOpen (s : State) (lot : Nat) : Bool :=
  match s.lot? lot with
  | some r => r.state == .opened
  | none => false
/-- The first PENDING step in list order (R12). -/
def State.firstPending? (s : State) : Option StepRecord := s.plan.steps.find? fun st => st.state == .pending
/-- Checks 1 to 10 of STEP_START in their order; none when every check passes (R12). -/
def State.startCheck (s : State) (id : Nat) : Option AnswerCode :=
  if s.plan.state ≠ .accepted then some .state
  else
    match s.firstPending? with
    | none => some .state
    | some st =>
      if st.id ≠ id then some .state
      else if st.accepted = false then some .state
      else if s.plan.steps.any StepRecord.isCurrent then some .state
      else if s.lotOpen st.lot = false then some .lot
      else if s.weigh.metrology.locked = false then some .metrology
      else if (s.isLowered st.loader && s.pinnedTo st.loader st.hold st.point) = false then some .state
      else if s.diverterAt st.loader = false then some .state
      else if s.dustOf st.loader = .stop then some .dust
      else if s.marginOk st = false then some .range
      else none
/-- The named step's consent-required flag. -/
def State.needsConsent (s : State) (id : Nat) : Bool :=
  match s.step? id with
  | some st => st.consentRequired
  | none => false
/-- The effects of a STEP_START that passes its checks: entry to CONSENT_WAIT, or to feeding (R12). -/
def State.startStep (s : State) (id : Nat) : State :=
  if s.needsConsent id then s.enterConsent id else s.enterFeeding id ReasonSet.none
/-- STEP_START by the Pour Plan (R12). The answer carries the state that the step holds (log 28). -/
def doStepStart (id : Nat) (s : State) : Reply :=
  match s.startCheck id with
  | some c => .refused c s
  | none => .done (.entered ((s.startStep id).stateOf id)) (s.startStep id)
/-- STEP_START (R12). -/
def execStepStart (tag : Byte) (step : Nat) (s : State) : Host.Outcome State Fault Refusal :=
  takeRequest .terminal tag (.stepStart tag step) (doStepStart step) s

/-- CONSENT_CONFIG by the Pour Plan (R18). -/
def doConsentConfig (seconds : Nat) (s : State) : Reply :=
  if inRange seconds 10 600 then .done .empty (s.withPlan { s.plan with windowLength := seconds })
  else .refused .range s
/-- CONSENT_CONFIG (R18). -/
def execConsentConfig (tag : Byte) (seconds : Nat) (s : State) : Host.Outcome State Fault Refusal :=
  takeRequest .terminal tag (.consentConfig tag seconds) (doConsentConfig seconds) s

/-- The reasons that a grant adds beside those of R13: LOADER and DUST (R16). -/
def State.grantReasons (s : State) (st : StepRecord) : ReasonSet :=
  { ReasonSet.none with loader := !s.ready st, dust := s.dustOf st.loader == .stop }
/-- An accepted grant: the step leaves CONSENT_WAIT for feeding (R13, R16). -/
def State.grant (s : State) (st : StepRecord) : State :=
  (s.setWindow none).enterFeeding st.id (s.grantReasons st)
/-- The answer to a CONSENT that names a step not in CONSENT_WAIT (R17). -/
def State.lateCode (s : State) (id : Nat) : AnswerCode :=
  if (match s.step? id with
      | some st => st.lapseMark
      | none => false) || s.plan.asked.contains id then .tooLate
  else .state
/-- The step in CONSENT_WAIT with an id. -/
def State.waiting? (s : State) (id : Nat) : Option StepRecord :=
  (s.step? id).filter fun st => st.state == .consentWait
/-- CONSENT by the Pour Plan (R16, R17). A decision other than the two is RANGE (R154, log 20). -/
def doConsent (id decision : Nat) (s : State) : Reply :=
  match decisionOf decision with
  | none => .refused .range s
  | some granted =>
    match s.waiting? id with
    | none => .refused (s.lateCode id) s
    | some st =>
      if granted then .done (.granted ((s.grant st).stateOf id) ((s.grant st).reasonsOf id)) (s.grant st)
      else .done .empty (s.leaveConsent id)
/-- CONSENT (R16, R17). -/
def execConsent (tag : Byte) (step decision : Nat) (s : State) : Host.Outcome State Fault Refusal :=
  takeRequest .vessel tag (.consent tag step decision) (doConsent step decision) s

/-- A window expiry (R15). At window 1: CONSENT_LAPSE, CONSENT_ASK, window 2. At window 2: CONSENT_LAPSE, then the return
to PENDING with its STEP_STATE. -/
def State.windowExpired (s : State) (w : ConsentWindow) : State :=
  if w.number ≤ 1 then
    ((s.setWindow (some (s.freshWindow w.step 2))).raise (.consentLapse w.step)).raise (.consentAsk w.step)
  else
    (((s.setWindow none).raise (.consentLapse w.step)).changeStep w.step fun st =>
      { st with state := .pending, lapseMark := true }).formDemand
/-- CONSENT_WINDOW_EXPIRY (R15, log 5). -/
def execConsentWindowExpiry (s : State) : Host.Outcome State Fault Refusal :=
  s.powered fun s => .next
    (match s.plan.window with
    | some w => s.windowExpired w
    | none => s)

/-! ### Suspension and resumption (R20, R21) -/

/-- HOLD by the Pour Plan (R20). -/
def doHold (s : State) : Reply :=
  match s.running? with
  | none => .refused .state s
  | some _ => .done .empty (s.addReason .terminal)
/-- HOLD (R20). -/
def execHold (tag : Byte) (s : State) : Host.Outcome State Fault Refusal :=
  takeRequest .terminal tag (.hold tag) doHold s

/-- HALT by the Pour Plan (R20). -/
def doHalt (s : State) : Reply :=
  match s.running? with
  | none => .refused .state s
  | some _ => .done .empty (s.addReason .vessel)
/-- HALT (R20). -/
def execHalt (tag : Byte) (s : State) : Host.Outcome State Fault Refusal :=
  takeRequest .vessel tag (.halt tag) doHalt s

/-- RELEASE by the Pour Plan (R20). -/
def doRelease (s : State) : Reply :=
  match s.running? with
  | none => .refused .state s
  | some st => if st.suspension.vessel then .done .empty (s.removeReason .vessel) else .refused .state s
/-- RELEASE (R20). -/
def execRelease (tag : Byte) (s : State) : Host.Outcome State Fault Refusal :=
  takeRequest .vessel tag (.release tag) doRelease s

/-- A step as it returns to FEEDING by RESUME (R21). -/
def StepRecord.resumed (st : StepRecord) : StepRecord :=
  { st with state := .feeding, suspension := ReasonSet.none }
/-- The effects of an accepted RESUME: the return to FEEDING, the test for LEVEL_AGED (R71) and the demand (R69). No rule orders
the STEP_STATE of the return (R3) and its LEVEL_AGED: STEP_STATE is raised first (log 7). -/
def State.resumeStep (s : State) (id : Nat) : State := ((s.changeStep id StepRecord.resumed).testAged).formDemand
/-- RESUME by the Pour Plan (R21). A refusal in SUSPENDED lists the reasons in the set; any other lists none. -/
def doResume (s : State) : Reply :=
  match s.running? with
  | none => ⟨.state, .reasons ReasonSet.none, s, none⟩
  | some st =>
    if st.state = .suspended then
      if st.suspension.put .terminal false = ReasonSet.none then .done .empty (s.resumeStep st.id)
      else ⟨.state, .reasons st.suspension, s, none⟩
    else ⟨.state, .reasons ReasonSet.none, s, none⟩
/-- RESUME (R21). -/
def execResume (tag : Byte) (s : State) : Host.Outcome State Fault Refusal :=
  takeRequest .terminal tag (.resume tag) doResume s

/-! ### Ending a step (R22) -/

/-- STEP_STOP by the Pour Plan (R22). -/
def doStepStop (id : Nat) (s : State) : Reply :=
  match s.step? id with
  | none => .refused .state s
  | some st =>
    if st.isRunning then .done .empty (s.enterCutoff id .ended)
    else if st.state = .consentWait then .done .empty (s.leaveConsent id)
    else .refused .state s
/-- STEP_STOP (R22). -/
def execStepStop (tag : Byte) (step : Nat) (s : State) : Host.Outcome State Fault Refusal :=
  takeRequest .terminal tag (.stepStop tag step) (doStepStop step) s

/-- END_POUR by the Pour Plan (R22). -/
def doEndPour (id : Nat) (s : State) : Reply :=
  match s.step? id with
  | none => .refused .state s
  | some st => if st.isRunning then .done .empty (s.enterCutoff id .ended) else .refused .state s
/-- END_POUR (R22). -/
def execEndPour (tag : Byte) (step : Nat) (s : State) : Host.Outcome State Fault Refusal :=
  takeRequest .vessel tag (.endPour tag step) (doEndPour step) s

/-! ### PLAN_READ (R26) -/

/-- The plan summary (R26). -/
def State.planSummary (s : State) : PlanSummary :=
  ⟨s.plan.state, s.plan.steps.length, s.plan.idCounter, s.plan.windowLength, s.current?.map (·.id), s.plan.tag,
    s.plan.window, s.plan.runOut⟩
/-- PLAN_READ by the Pour Plan (R26): at most four records from the named position on. -/
def doPlanRead (position : Nat) (s : State) : Reply :=
  if inRange position 1 64 then
    .done (.plan s.planSummary ((s.plan.steps.drop (position - 1)).take 4)) s
  else .refused .range s
/-- PLAN_READ (R26). -/
def execPlanRead (link : Link) (tag : Byte) (position : Nat) (s : State) : Host.Outcome State Fault Refusal :=
  takeRequest link tag (.planRead link tag position) (doPlanRead position) s

end Sys2Proof.Machine
end

