-- ==== Sys2Proof/Machine/BillBook.lean ====
section
/-! DEFINITION. Machine/BillBook.lean: the requests of the Bill Book: LOT_OPEN (R112), LOT_CLOSE (R113), BOOK_CLEAR (R118) and
BOOK_READ (R117). -/

namespace Sys2Proof.Machine

/-- A lot's record replaced. -/
def State.setLot (s : State) (n : Nat) (r : LotRecord) : State :=
  s.withBook { s.book with lots := setSlot s.book.lots n r }
/-- A lot record as LOT_OPEN makes it (R112). -/
def openedLot (reference : List Nat) (ordered : Option Nat) : LotRecord :=
  ⟨.opened, some reference, ordered, Account.zero, none⟩
/-- LOT_OPEN by the Bill Book (R112). -/
def doLotOpen (lot : Nat) (reference : List Nat) (ordered : Option Nat) (s : State) : Reply :=
  if lotOk lot && referenceOk reference && orderedOk ordered then
    match s.lot? lot with
    | some r =>
      if r.state = .free then .done .empty ((s.setLot lot (openedLot reference ordered)).raise (.lotState lot))
      else .refused .state s
    | none => .refused .state s
  else .refused .range s
/-- LOT_OPEN (R112). -/
def execLotOpen (tag : Byte) (lot : Nat) (reference : List Nat) (ordered : Option Nat) (s : State) :
    Host.Outcome State Fault Refusal :=
  takeRequest .survey tag (.lotOpen tag lot reference ordered) (doLotOpen lot reference ordered) s

/-- LOT_CLOSE by the Bill Book (R113): CLOSED at once when the closing conditions hold, CLOSING otherwise. -/
def doLotClose (lot : Nat) (s : State) : Reply :=
  if !lotOk lot then .refused .range s
  else
    match s.lot? lot with
    | some r =>
      if r.state = .opened then
        if s.closingHolds lot then .done (.closePending false) (s.closeLot lot)
        else .done (.closePending true) ((s.setLot lot { r with state := .closing }).raise (.lotState lot))
      else .refused .state s
    | none => .refused .state s
/-- LOT_CLOSE (R113). -/
def execLotClose (tag : Byte) (lot : Nat) (s : State) : Host.Outcome State Fault Refusal :=
  takeRequest .survey tag (.lotClose tag lot) (doLotClose lot) s

/-- A lot record in FREE (R107). -/
def freeLot : LotRecord := ⟨.free, none, none, Account.zero, none⟩
/-- The numbers of the CLOSED lots, in lot order: BOOK_CLEAR raises LOT_STATE for them in this order, which R118 leaves open
(log 7). -/
def State.closedLots (s : State) : List Nat :=
  [1, 2, 3, 4, 5, 6, 7, 8].filter fun n =>
    match s.lot? n with
    | some r => r.state == .closed
    | none => false
/-- A CLOSED lot becomes FREE; any other stands (R118). -/
def LotRecord.freed (r : LotRecord) : LotRecord := if r.state = .closed then freeLot else r
/-- LOT_STATE raised for each lot of a list. -/
def State.raiseLots (s : State) (ns : List Nat) : State := ns.foldl (fun t n => t.raise (.lotState n)) s
/-- The book after an accepted BOOK_CLEAR (R118). -/
def Book.cleared (b : Book) : Book := { b with lots := b.lots.map LotRecord.freed, unassigned := Account.zero }
/-- BOOK_CLEAR by the Bill Book (R118). -/
def doBookClear (s : State) : Reply :=
  if s.book.lots.any fun r => !(r.state == .free || r.state == .closed) then .refused .state s
  else if s.beltEmpty = false then .refused .state s
  else .done (.count s.closedLots.length) ((s.withBook s.book.cleared).raiseLots s.closedLots)
/-- BOOK_CLEAR (R118). -/
def execBookClear (tag : Byte) (s : State) : Host.Outcome State Fault Refusal :=
  takeRequest .survey tag (.bookClear tag) doBookClear s

/-- The SUMMARY of a lot record (R117). -/
def LotRecord.summary (r : LotRecord) : BookSummary :=
  ⟨some r.state, r.reference, r.ordered, r.account.weighed, r.account.delivered.sum, r.account.returned,
    r.account.spill, r.account.unresolved, r.account.inTransit, r.account.residue, r.account.loaded,
    r.ordered.map fun o => (o : Int) - (r.account.loaded : Int)⟩
/-- The SUMMARY of the unassigned record (R117). -/
def Account.summary (a : Account) : BookSummary :=
  ⟨none, none, none, a.weighed, a.delivered.sum, a.returned, a.spill, a.unresolved, a.inTransit, a.residue, a.loaded,
    none⟩
/-- A part of a lot's record as BOOK_READ gives it (R117). -/
def LotRecord.part (r : LotRecord) : BookPart → AnswerRecord
  | .summary => .bookSummary r.summary
  | .holds => .bookHolds r.account.delivered r.account.offPlan
  | .closing =>
    match r.state, r.closing with
    | .closed, some c => .bookClosing c
    | st, _ => .bookNotClosed st
/-- BOOK_READ by the Bill Book (R117). -/
def doBookRead (record part : Nat) (s : State) : Reply :=
  match bookPartOf part with
  | none => .refused .range s
  | some p =>
    if record = 0 then
      match p with
      | .summary => .done (.bookSummary s.book.unassigned.summary) s
      | .holds => .done (.bookHolds s.book.unassigned.delivered s.book.unassigned.offPlan) s
      | .closing => .refused .range s
    else
      match s.lot? record with
      | some r => .done (r.part p) s
      | none => .refused .range s
/-- BOOK_READ (R117). -/
def execBookRead (link : Link) (tag : Byte) (record part : Nat) (s : State) : Host.Outcome State Fault Refusal :=
  takeRequest link tag (.bookRead link tag record part) (doBookRead record part) s

end Sys2Proof.Machine
end

