-- ==== Sys2Proof/Machine/NoticeRouter.lean ====
section
/-! DEFINITION. Machine/NoticeRouter.lean: the default routes of a link (R164), the reset of a notice record by a break (R170) and
by a reset (R169), and the requests of the Notice Router: FETCH_EVENTS (R167) and ROUTE_SET (R168). -/

namespace Sys2Proof.Machine

/-- The codes of a link's default route set (R164). -/
def defaultCodes : Link → List Nat
  | .terminal => [0, 1, 2, 3, 4, 5, 6, 7, 8, 9, 10, 11, 12, 13, 14, 15]
  | .vessel => [1, 2, 4, 5, 6, 7, 8, 13, 15]
  | .survey => [8, 9, 10, 14, 15]
/-- The route set of a list of codes (R164). -/
def routesOf (codes : List Nat) : List Bool := (List.range 16).map fun c => codes.contains c
/-- No class pending (R164). -/
def noPending : List (Option PendingEntry) := List.replicate 16 none
/-- A link's notice record after a break (R170). -/
def brokenNotice (k : Link) : NoticeRecord := ⟨noPending, routesOf (defaultCodes k)⟩
/-- A link's notice record after a reset: RESTART alone is pending (R169). -/
def resetNotice (k : Link) (kind : RestartKind) : NoticeRecord :=
  ⟨noPending.set 15 (some ⟨.restart kind, 1⟩), routesOf (defaultCodes k)⟩

/-- FETCH_EVENTS by the Notice Router (R167): the pending classes in code order, which are then emptied. -/
def doFetchEvents (k : Link) (s : State) : Reply :=
  .done (.events ((s.notice k).pending.filterMap id)) (s.withNotice k { s.notice k with pending := noPending })
/-- FETCH_EVENTS (R167). -/
def execFetchEvents (link : Link) (tag : Byte) (s : State) : Host.Outcome State Fault Refusal :=
  takeRequest link tag (.fetchEvents link tag) (doFetchEvents link) s

/-- ROUTE_SET by the Notice Router (R168). -/
def doRouteSet (k : Link) (codes : List Nat) (s : State) : Reply :=
  if codesOk codes then
    .done (.routes (s.notice k).routes) (s.withNotice k { s.notice k with routes := routesOf codes })
  else .refused .range s
/-- ROUTE_SET (R168). -/
def execRouteSet (link : Link) (tag : Byte) (codes : List Nat) (s : State) : Host.Outcome State Fault Refusal :=
  takeRequest link tag (.routeSet link tag codes) (doRouteSet link codes) s

end Sys2Proof.Machine
end

