-- ==== Sys2Proof/Machine/LinkUnit.lean ====
section
/-! DEFINITION. Machine/LinkUnit.lean: the receiver of a master link (R152, R153), the checks of a valid frame (R155), the link
state (R160, R161), the sending of frames (R159), the break (R162), and STATUS (R163). -/

namespace Sys2Proof.Machine

/-! ### The receiver (R153) -/

/-- The receiver after a destuffed byte is appended, and the complete frame that the byte finished. The fifth byte is the
body length; one above 240 abandons the partial frame. -/
def appendByte (collected : List Byte) (v : Byte) : LinkReceiver × Option (List Byte) :=
  match (collected ++ [v])[4]? with
  | none => (.collecting (collected ++ [v]) false, none)
  | some n =>
    if Config.maxBody < n.toNat then (.hunting, none)
    else if (collected ++ [v]).length = 7 + n.toNat then (.hunting, some (collected ++ [v]))
    else (.collecting (collected ++ [v]) false, none)
/-- The receiver after one byte of the line, and the complete frame that the byte finished (R153). -/
def LinkReceiver.take (r : LinkReceiver) (b : Byte) : LinkReceiver × Option (List Byte) :=
  if b = 0x7E#8 then (.collecting [b] false, none)
  else
    match r with
    | .hunting => (.hunting, none)
    | .collecting c true =>
      if b = 0x5E#8 then appendByte c 0x7E#8
      else if b = 0x5D#8 then appendByte c 0x7D#8
      else (.hunting, none)
    | .collecting c false => if b = 0x7D#8 then (.collecting c true, none) else appendByte c b
/-- The check of a complete frame matches (R152): it is a valid frame (R153). -/
def frameValid (frame : List Byte) : Bool :=
  halfBytes (crc16 (frame.tail.dropLast.dropLast)) == frame.drop (frame.length - 2)
/-- A link's receiver replaced. -/
def State.setLinkReceiver (s : State) (k : Link) (r : LinkReceiver) : State :=
  s.withLink k { s.link k with receiver := r }

/-! ### Link state (R160, R161, R169) -/

/-- The RESTART notice at the first change of a link to UP after a reset (R169). -/
def State.restartNotice (s : State) (k : Link) : State :=
  match (s.notice k).entry? 15 with
  | some p => if (s.notice k).routed 15 then s.placeNotice k p.last else s
  | none => s
/-- A change of the terminal link to UP is handed to the Pour Plan (R161). -/
def State.terminalUp (s : State) (k : Link) : State :=
  match k with
  | .terminal => s.removeReason .link
  | _ => s
/-- A valid frame's effect on the link state: the silence timer restarts, and a DOWN link goes UP (R160). -/
def State.hear (s : State) (k : Link) : State :=
  if (s.link k).up then s.withLink k { s.link k with silence := some 0 }
  else
    let s1 := s.withLink k { s.link k with up := true, silence := some 0, heardSinceReset := true }
    (if (s.link k).heardSinceReset then s1 else s1.restartNotice k).terminalUp k
/-- The silence timer of an UP link has reached 2,000 ms: the link goes DOWN, LINK_LOST is raised, and the terminal link's
loss adds LINK (R160, R161). -/
def State.silent (s : State) (k : Link) : State :=
  if (s.link k).up then
    let s1 := (s.withLink k { s.link k with up := false, silence := none }).raise (.linkLost k)
    match k with
    | .terminal => s1.addReason .link
    | _ => s1
  else s
/-- SILENCE_TIMER_EXPIRY (R160, log 5). -/
def execSilenceTimerExpiry (link : Link) (s : State) : Host.Outcome State Fault Refusal :=
  s.powered fun s => .next (s.silent link)

/-! ### The checks of a valid frame (R155) -/

/-- Checks 2 to 5 of R155 for a frame of kind REQUEST with a tag, a code and a body. -/
def State.checkRequest (s : State) (k : Link) (tag code : Byte) (body : List Byte) : State :=
  if code.toNat = 0 ∨ 50 < code.toNat then s.refuse k tag .unknown code
  else
    match decodeRequest k tag code.toNat body with
    | none => s.refuse k tag .malformed code
    | some i => if entitled k code.toNat then s.joinQueue k tag i else s.refuse k tag .denied code
/-- A valid frame handed to the checks of R155; check 1 discards a frame of another kind. -/
def State.checkFrame (s : State) (k : Link) (frame : List Byte) : State :=
  match frame with
  | _ :: kind :: tag :: code :: _ :: rest =>
    if kind = 0x01#8 then s.checkRequest k tag code rest.dropLast.dropLast else s
  | _ => s
/-- A complete frame: one whose check matches is a valid frame, and any other is discarded (R153). -/
def State.takeFrame (s : State) (k : Link) (frame : List Byte) : State :=
  if frameValid frame then (s.hear k).checkFrame k frame else s
/-- One byte of the line received on a link (R153). -/
def State.linkByte (k : Link) (s : State) (b : Byte) : State :=
  match (s.link k).receiver.take b with
  | (r, some frame) => (s.setLinkReceiver k r).takeFrame k frame
  | (r, none) => s.setLinkReceiver k r
/-- Bytes received on a link; during a break the line is at space and carries none (R162, log 11). -/
def State.linkBytes (s : State) (k : Link) (bytes : List Byte) : State :=
  match (s.link k).brk with
  | .marking => bytes.foldl (State.linkByte k) s
  | .broken => s
/-- MASTER_FRAME_RECEIVED: the bytes of a frame arrive on a link (R153, R155, log 11). -/
def execMasterFrameReceived (link : Link) (bytes : List Byte) (s : State) : Host.Outcome State Fault Refusal :=
  s.powered fun s => .next (s.linkBytes link bytes)
/-- MARKER_RECEIVED: a byte 0x7E arrives on a link (R153). -/
def execMarkerReceived (link : Link) (s : State) : Host.Outcome State Fault Refusal :=
  s.powered fun s => .next (s.linkBytes link [0x7E#8])
/-- PARTIAL_FRAME_ABANDONED: a body length above 240, or a byte that fails to destuff (R153). -/
def execPartialFrameAbandoned (link : Link) (s : State) : Host.Outcome State Fault Refusal :=
  s.powered fun s => .next (s.setLinkReceiver link .hunting)
/-- FRAMING_ERROR: a byte with a framing error abandons the partial frame (R151, R153). -/
def execFramingError (link : Link) (s : State) : Host.Outcome State Fault Refusal :=
  s.powered fun s => .next (s.setLinkReceiver link .hunting)
/-- FRAME_GAP_TIMEOUT: more than 20 ms between two bytes of a frame (R153). -/
def execFrameGapTimeout (link : Link) (s : State) : Host.Outcome State Fault Refusal :=
  s.powered fun s => .next (s.setLinkReceiver link .hunting)
/-- FRAME_SENT: the frame at the head of the output queue leaves it (R159). -/
def execFrameSent (link : Link) (s : State) : Host.Outcome State Fault Refusal :=
  s.powered fun s => .next (s.withLink link { s.link link with output := (s.link link).output.tail })

/-! ### Link break (R162, R170) -/

/-- A link record at the beginning of a break (R162): the link state and the output queue stand. -/
def LinkRecord.broken (r : LinkRecord) : LinkRecord := { r with receiver := .hunting, requests := [], brk := .broken }
/-- LINK_BREAK: a break begins (R162), and the link's notice record is set as R170 states. A break in progress does not
begin again. -/
def execLinkBreak (link : Link) (s : State) : Host.Outcome State Fault Refusal :=
  s.powered fun s => .next
    (match (s.link link).brk with
    | .marking => (s.withLink link (s.link link).broken).withNotice link (brokenNotice link)
    | .broken => s)
/-- BREAK_END: the line returns to mark (R162). -/
def execBreakEnd (link : Link) (s : State) : Host.Outcome State Fault Refusal :=
  s.powered fun s => .next (s.withLink link { s.link link with brk := .marking })

/-! ### STATUS (R163) -/

/-- The frame is the place reserved for an answer being formed. -/
def OutFrame.isReserved : OutFrame → Bool
  | .reserved _ => true
  | _ => false
/-- A link of the LINKS section (R163); the place reserved for this answer is not counted (log 29). -/
def LinkRecord.view (r : LinkRecord) : LinkView :=
  ⟨r.up, r.silence, r.requests.length, (r.output.filter fun f => !f.isReserved).length, r.brk⟩
/-- A cache entry of the HATCH section (R163). -/
def CacheEntry.view : CacheEntry → EntryView
  | .invalid => .invalid
  | .valid k _ => .valid k
  | .pinned k _ l => .pinned k l
  | .stale k _ l => .stale k l
/-- A zone of the DUST section: each history time with its age in seconds (R137), cut to whole seconds (log 33). -/
def State.zoneView (s : State) (z : Zone) : ZoneView :=
  ⟨(s.dust.get z).state, s.restriction z, (s.dust.get z).timer, (s.dust.get z).latch,
    (s.dust.get z).history.map fun t => (t, (s.timeBase - t).toNat / 1000), s.warns z, s.alarms z⟩
/-- A section of STATUS (R83, R105, R122, R137, R149, R163). -/
def State.statusView (s : State) (k : Link) : StatusPart → StatusView
  | .links =>
    .links s.fastRate k ⟨s.links.terminal.view, s.links.vessel.view, s.links.survey.view⟩
  | .hatch =>
    .hatch s.hatch.mooring s.hatch.zones (s.hatch.holds.map Option.isSome)
      (s.hatch.levels.map fun r => r.map fun q => (q.height, q.age)) s.cache.pointer (s.cache.entries.map CacheEntry.view)
  | .gate =>
    .gate s.gate.demand s.gate.state s.gate.timer s.gate.fault s.gate.agedMark s.diverter.state s.diverter.command
      s.diverter.timer s.diverter.lapse ([10, 11, 12, 13, 14, 15].map s.cond) s.weigh.trimFlag
  | .weighing =>
    .weighing s.weigh.metrology s.weigh.config s.weigh.position s.weigh.seqCounter s.plan.tag s.weigh.trimFlag
      s.queueStands s.weigh.queue.length (s.plan.tag.bind fun _ => s.weigh.lastEval)
  | .book => .book (s.book.lots.map (·.state)) s.book.unassigned.inTransit s.book.restartKind
  | .dust =>
    .dust ⟨s.zoneView .z1, s.zoneView .z2, s.zoneView .z3⟩ (s.dustOf .l1) (s.dustOf .l2)
      (s.current?.map fun st => s.dustOf st.loader)
  | .field =>
    .field (s.lines.records.map LineRecord.view) s.lines.locked s.ports.l1.counter s.ports.l1.orders.length
      s.ports.l2.counter s.ports.l2.orders.length
/-- STATUS by the Link Unit, with every block's part (R163). -/
def doStatus (k : Link) (part : Nat) (s : State) : Reply :=
  match statusPartOf part with
  | none => .refused .range s
  | some p => .done (.status (s.statusView k p)) s
/-- STATUS (R163). -/
def execStatus (link : Link) (tag : Byte) (part : Nat) (s : State) : Host.Outcome State Fault Refusal :=
  takeRequest link tag (.status link tag part) (doStatus link part) s

end Sys2Proof.Machine
end

