-- ==== Sys2Proof/Machine/Resets.lean ====
section
/-! DEFINITION. Machine/Resets.lean: warm reset and retained clear (R119 to R121, with the reset parts of R27, R28, R31, R33,
R34, R38, R50, R68, R78, R84, R87, R89, R92, R95, R106, R123, R138, R139, R147 to R151, R164 and R169), the loss of the main
supply and the judging of the retained bank (R111, R119). -/

namespace Sys2Proof.Machine

/-! ### The retained bank (R106, R119 to R121) -/

/-- The lot records with their in-transit mass moved to Unresolved; the bookings are numbered from `draw` (R106, R120). -/
def settleLots (draw : Nat) : List LotRecord → List LotRecord
  | [] => []
  | r :: rest => { r with account := r.account.settle draw } :: settleLots (draw + 1) rest
/-- The book with every record's in-transit mass moved to Unresolved (R106, R120). -/
def Book.settled (b : Book) : Book :=
  { b with
    lots := settleLots (b.draws + 1) b.lots
    unassigned := b.unassigned.settle b.draws
    draws := b.draws + 1 + b.lots.length }
/-- A lot in CLOSING enters CLOSED; any other stands (R120). -/
def LotRecord.closedByReset (m : Metrology) (r : LotRecord) : LotRecord := if r.state = .closing then r.close m else r
/-- The book after a warm reset: the transfer, then the closing of every lot in CLOSING (R120). -/
def Book.warm (b : Book) (m : Metrology) (kind : RestartKind) : Book :=
  { b.settled with lots := b.settled.lots.map (LotRecord.closedByReset m), restartKind := kind }
/-- The book after a retained clear: nothing of the transfer is left (R121). -/
def Book.blank (b : Book) (kind : RestartKind) : Book :=
  ⟨List.replicate 8 freeLot, Account.zero, kind, b.draws⟩
/-- The numbers of the lots in CLOSING, in lot order: those that a warm reset closes (R120). -/
def State.closingLots (s : State) : List Nat :=
  [1, 2, 3, 4, 5, 6, 7, 8].filter fun n =>
    match s.lot? n with
    | some r => r.state == .closing
    | none => false
/-- The metrology record after retained clear (R84). -/
def defaultMetrology : Metrology := ⟨10, 1000000, false⟩

/-! ### The volatile state -/

/-- The plan record after a reset (R27). -/
def resetPlan : Plan := ⟨.empty, [], 1, [], none, none, none, 60⟩
/-- The Hatch Map after a reset (R28, R31, R33, R34). -/
def resetHatch : Hatch :=
  ⟨List.replicate 12 none, List.replicate 12 none, none, List.replicate 4 ⟨false, 0, 0, 0, 0⟩⟩
/-- The Window Cache after a reset (R38). -/
def resetCache : Cache := ⟨List.replicate 8 .invalid, 0⟩
/-- A loader record after a reset (R50, log 2). -/
def resetLoader : LoaderRecord := ⟨.unreported, none, none, none, none, none, 0, 0, none, none⟩
/-- The belt configuration's defaults (R87). -/
def defaultBelt : BeltConfig := ⟨10, 60000, 1000, 20000, 1500, 5000⟩
/-- The Weighing Unit after a reset with a metrology record (R84, R87, R89, R92, R95, R106). -/
def resetWeigh (m : Metrology) : Weigh := ⟨m, defaultBelt, 0, none, [], 0, false, none⟩
/-- A line record after a reset with a raw level (R138, R139, R140). -/
def resetLine (high : Bool) : LineRecord := ⟨.high, true, 3, high, 0, high⟩
/-- The sixteen lines after a reset with their raw levels, bit i the level of line i, each sampled at that moment (R138,
R139). -/
def resetLines (raw : Half) : FieldLines :=
  ⟨(List.range 16).map fun i => resetLine (raw.getLsbD i), false, (List.range 16).map fun i => raw.getLsbD i,
    List.replicate 16 true⟩
/-- A drive port after a reset (R147, R148). -/
def resetPort : DrivePort := ⟨.hunting, [], 0, none⟩
/-- A link record after a reset (R150). -/
def resetLink : LinkRecord := ⟨false, none, .hunting, [], [], .marking, false⟩
/-- The gate record after a reset: CLOSING with the closure timer, or CLOSED when the gate-closed condition holds (R68). -/
def resetGate (shut : Bool) : Gate :=
  ⟨.closed, if shut then .closed else .closing, if shut then none else some Config.closureTime, false, none, false,
    false⟩
/-- The diverter record after a reset with the state derived from the conditions (R78). -/
def resetDiverter (state : DiverterState) : Diverter :=
  ⟨state, none, if state = .moving then some Config.moveTime else none, false, false, false, false⟩
/-- A zone record after a reset: PURGE for 120 s, or ALARM at time 0 when its alarm condition is asserted (R123, R126,
R128). -/
def resetZone (alarm : Bool) : ZoneRecord :=
  if alarm then (ZoneRecord.mk .purge (some 120000) 120 []).alarmed 0 else ⟨.purge, some 120000, 120, []⟩

/-- The part after a reset of a kind with raw levels and the rate strap, before the events that the reset raises. The book
and the metrology record are given; the command queue stands. -/
def State.volatileReset (s : State) (raw : Half) (strapClosed : Bool) (kind : RestartKind) (book : Book)
    (m : Metrology) : State :=
  let lined := s.withLines (resetLines raw)
  { pending := s.pending
    mainSupply := true
    bankHeld := true
    timeBase := 0
    fastRate := strapClosed
    plan := resetPlan
    hatch := resetHatch
    cache := resetCache
    loaders := ⟨resetLoader, resetLoader⟩
    gate := resetGate lined.gateShut
    diverter := resetDiverter (lined.derivedDiverter none false)
    weigh := resetWeigh m
    book := book
    dust := ⟨resetZone (lined.alarms .z1), resetZone (lined.alarms .z2), resetZone (lined.alarms .z3)⟩
    lines := resetLines raw
    ports := ⟨resetPort, resetPort⟩
    links := ⟨resetLink, resetLink, resetLink⟩
    notices := ⟨resetNotice .terminal kind, resetNotice .vessel kind, resetNotice .survey kind⟩ }
/-- DUST_ALARM for a zone that entered ALARM at the reset (R169). -/
def State.raiseResetAlarm (s : State) (z : Zone) : State :=
  if (s.dust.get z).state = .alarm then s.raise (.dustAlarm z) else s
/-- The events that a reset raises, in the order of R169. -/
def State.resetEvents (s : State) (closed : List Nat) : State :=
  (((((if s.diverter.state = .unknown then s.raise (.equipmentFault .diverter) else s).raiseResetAlarm
    .z1).raiseResetAlarm .z2).raiseResetAlarm .z3).raiseLots closed)
/-- Warm reset by a cause (R120). -/
def State.warmReset (s : State) (raw : Half) (strapClosed : Bool) (kind : RestartKind) : State :=
  (s.volatileReset raw strapClosed kind (s.book.warm s.weigh.metrology kind) s.weigh.metrology).resetEvents
    s.closingLots
/-- Retained clear by a cause (R121). -/
def State.retainedClear (s : State) (raw : Half) (strapClosed : Bool) (kind : RestartKind) : State :=
  (s.volatileReset raw strapClosed kind (s.book.blank kind) defaultMetrology).resetEvents []

/-! ### The commands -/

/-- WARM_RESET: RST with RCLR deasserted throughout (R119, R120). -/
def execWarmReset (raw : Half) (strapClosed : Bool) (s : State) : Host.Outcome State Fault Refusal :=
  s.powered fun s => .next (s.warmReset raw strapClosed .warmLine)
/-- RETAINED_CLEAR: RST with RCLR asserted (R119, R121). -/
def execRetainedClear (raw : Half) (strapClosed : Bool) (s : State) : Host.Outcome State Fault Refusal :=
  s.powered fun s => .next (s.retainedClear raw strapClosed .clearLine)
/-- POWER_ON: a warm reset when the retained bank is valid, a retained clear otherwise (R119). -/
def execPowerOn (raw : Half) (strapClosed : Bool) (s : State) : Host.Outcome State Fault Refusal :=
  .next
    (if s.bankHeld then s.warmReset raw strapClosed .warmPower else s.retainedClear raw strapClosed .clearBank)
/-- MAIN_SUPPLY_LOSS: the bank keeps every booking whole, and the judging of BKOK begins (R111, R119, log 15). -/
def execMainSupplyLoss (s : State) : Host.Outcome State Fault Refusal :=
  s.powered fun s => .next { s with mainSupply := false, bankHeld := true }
/-- BKOK_DEASSERTED: while the main supply is off the bank is judged not valid; while it holds there is no effect
(R119). -/
def execBkokDeasserted (s : State) : Host.Outcome State Fault Refusal :=
  .next (if s.mainSupply then s else { s with bankHeld := false })

end Sys2Proof.Machine
end

