-- ==== Sys2Proof/Machine/Weighing.lean ====
section
/-! DEFINITION. Machine/Weighing.lean: the requests of the Weighing Unit: METROLOGY_SET (R85), METROLOGY_LOCK (R86),
BELT_CONFIG (R88) and QUEUE_READ (R105); the increment (R90 to R92) and the belt advance (R89) with its discharges (R98 to
R101). -/

namespace Sys2Proof.Machine

/-! ### Metrology and belt configuration -/

/-- A lot is OPEN or CLOSING (R85). -/
def State.anyLotRuns (s : State) : Bool := s.book.lots.any fun r => r.state == .opened || r.state == .closing
/-- METROLOGY_SET by the Weighing Unit (R85). -/
def doMetrologySet (quantum span : Nat) (s : State) : Reply :=
  if s.weigh.metrology.locked then .refused .locked (s.raise .metrologyAttempt)
  else if s.anyLotRuns then .refused .state s
  else if quantumOk quantum && spanOk span then
    .done .empty
      (s.withWeigh { s.weigh with metrology := { s.weigh.metrology with quantum := quantum, span := span } })
  else .refused .range s
/-- METROLOGY_SET (R85). -/
def execMetrologySet (tag : Byte) (quantum span : Nat) (s : State) : Host.Outcome State Fault Refusal :=
  takeRequest .survey tag (.metrologySet tag quantum span) (doMetrologySet quantum span) s

/-- METROLOGY_LOCK by the Weighing Unit (R86). -/
def doMetrologyLock (s : State) : Reply :=
  if s.weigh.metrology.locked then .refused .locked s
  else .done .empty (s.withWeigh { s.weigh with metrology := { s.weigh.metrology with locked := true } })
/-- METROLOGY_LOCK (R86). -/
def execMetrologyLock (tag : Byte) (s : State) : Host.Outcome State Fault Refusal :=
  takeRequest .survey tag (.metrologyLock tag) doMetrologyLock s

/-- BELT_CONFIG by the Weighing Unit (R88). -/
def doBeltConfig (c : BeltConfig) (s : State) : Reply :=
  if !beltFieldsOk c then .refused .range s
  else if 480 * c.length < c.transit then .refused .range s
  else if s.beltEmpty = false then .refused .state s
  else .done .empty ((s.withWeigh { s.weigh with config := c }).evaluate.formDemand)
/-- BELT_CONFIG (R88). -/
def execBeltConfig (tag : Byte) (pitch transit length runOut tail band : Nat) (s : State) :
    Host.Outcome State Fault Refusal :=
  takeRequest .terminal tag (.beltConfig tag pitch transit length runOut tail band)
    (doBeltConfig ⟨pitch, transit, length, runOut, tail, band⟩) s

/-! ### Increments (R90 to R92) -/

/-- The lot of the tag step: none when the tag step is none (R90, R92). -/
def State.tagLot? (s : State) : Option Nat := s.tagStep?.map (·.lot)
/-- The account of a lot, or the unassigned record's (R90). -/
def State.account (s : State) (lot : Option Nat) : Account :=
  match lot with
  | none => s.book.unassigned
  | some n =>
    match s.lot? n with
    | some r => r.account
    | none => Account.zero
/-- The grain of one increment, in kg·ppm (R90). -/
def State.grain (s : State) : Nat := s.weigh.metrology.quantum * s.weigh.metrology.span
/-- The whole kilograms that an increment draws from its accumulator (R90). -/
def State.drawn (s : State) : Nat := ((s.account s.tagLot?).residue + s.grain) / Config.ppm
/-- The parcel that an increment opens (R92). -/
def State.newParcel (s : State) : Parcel := ⟨s.weigh.seqCounter, s.plan.tag, s.tagLot?, 0, s.weigh.position⟩
/-- The open parcel present: one is opened when it is absent, and the sequence counter advances (R92). -/
def State.openParcel (s : State) : State :=
  match s.weigh.openParcel with
  | some _ => s
  | none =>
    s.withWeigh { s.weigh with openParcel := some s.newParcel, seqCounter := s.weigh.seqCounter + 1 }
/-- The open parcel gains a mass (R91). -/
def State.fillParcel (s : State) (k : Nat) : State :=
  s.withWeigh { s.weigh with openParcel := s.weigh.openParcel.map fun p => { p with mass := p.mass + k } }
/-- An increment (R90, R91): the parcel, the weighing booking, then the evaluation. -/
def State.increment (s : State) : State :=
  ((((s.openParcel.fillParcel s.drawn).bookOn s.tagLot? fun a n => a.weighIn n s.grain).evaluate).formDemand)
/-- INCREMENT (R90). -/
def execIncrement (s : State) : Host.Outcome State Fault Refusal := s.powered fun s => .next s.increment

/-! ### Discharge (R98 to R101) -/

/-- The record number in a SPILL event: the lot, or 0 for the unassigned record (R164). -/
def recordOf (lot : Option Nat) : Nat := lot.getD 0
/-- The booking is on-plan: the tag names a step with this loader and this hold (R100). -/
def State.onPlan (s : State) (p : Parcel) (l : Loader) (h : Nat) : Bool :=
  match p.tag.bind s.step? with
  | some st => st.loader == l && st.hold == h
  | none => false
/-- A Spill booking with its SPILL event (R99). -/
def State.spillParcel (s : State) (p : Parcel) : State :=
  (s.bookOn p.lot fun a n => a.spillOut n p.mass).raise (.spill (recordOf p.lot))
/-- An on-plan booking also adds the mass to the P of the tagged step (R100). -/
def State.creditStep (s : State) (tag : Option Nat) (m : Nat) : State :=
  match tag with
  | some id => s.modifyStep id fun st => { st with delivered := st.delivered + m }
  | none => s
/-- A delivery booking to a hold through a loader, on-plan or off-plan (R99, R100). -/
def State.deliverParcel (s : State) (p : Parcel) (l : Loader) (h : Nat) : State :=
  if s.onPlan p l h then (s.bookOn p.lot fun a n => a.deliver n h p.mass true).creditStep p.tag p.mass
  else (s.bookOn p.lot fun a n => a.deliver n h p.mass false).raise (.offPlan h)
/-- A discharge at a loader: a delivery when it is LOWERED with a pin, and Spill otherwise (R99). -/
def State.dischargeAt (s : State) (p : Parcel) (l : Loader) : State :=
  if s.isLowered l then
    match s.pinKey? l with
    | some k => s.deliverParcel p l k.hold
    | none => s.spillParcel p
  else s.spillParcel p
/-- The booking of a discharging parcel, by the table of R99. -/
def State.bookDischarge (s : State) (p : Parcel) : State :=
  match s.diverter.state with
  | .atReturn => s.bookOn p.lot fun a n => a.giveBack n p.mass
  | .moving => s.spillParcel p
  | .unknown => s.spillParcel p
  | .atL1 => s.dischargeAt p .l1
  | .atL2 => s.dischargeAt p .l2
/-- The end of the queue condition, from a state in which it stood (R96). -/
def State.queueEnded (s : State) (stood : Bool) : State :=
  if stood && !s.queueStands then (s.removeReason .queue).formDemand else s
/-- One discharge of the head parcel, with its hand-on: the evaluation, the run-out test and the closing test (R98, R101). The
end of the queue condition (R96) comes before the three, and the three come in that order: the model's choice (log 7). -/
def State.discharge (s : State) (p : Parcel) (rest : List Parcel) : State :=
  ((((((s.withWeigh { s.weigh with queue := rest }).bookDischarge p).queueEnded s.queueStands).evaluate).runOutTest).closeLots).formDemand
/-- Stage 2 of a belt advance: every parcel that has reached the diverter leaves, oldest first (R98). -/
def State.dischargeDue : Nat → State → State
  | 0, s => s
  | fuel + 1, s =>
    match s.weigh.queue with
    | p :: rest =>
      if s.weigh.config.transit ≤ s.distanceSince p.launch then
        State.dischargeDue fuel (s.discharge p rest)
      else s
    | [] => s

/-! ### The belt advance (R89) -/

/-- Stage 1: the belt position advances by the encoder pitch, modulo 2^32 (R89). -/
def State.advanceBelt (s : State) : State :=
  s.withWeigh { s.weigh with position := s.weigh.position + BitVec.ofNat 32 s.weigh.config.pitch }
/-- Stage 3: the open parcel closes by length (R93). -/
def State.closeByLength (s : State) : State :=
  match s.weigh.openParcel with
  | some p => if s.weigh.config.length ≤ s.distanceSince p.launch then s.closeParcel else s
  | none => s
/-- A belt advance: its four stages (R89). -/
def State.beltAdvance (s : State) : State :=
  (((State.dischargeDue s.weigh.queue.length s.advanceBelt).closeByLength).runOutTest).formDemand
/-- BELT_ADVANCE (R89). -/
def execBeltAdvance (s : State) : Host.Outcome State Fault Refusal := s.powered fun s => .next s.beltAdvance

/-! ### QUEUE_READ (R105) -/

/-- The answer of QUEUE_READ (R105). -/
def State.queueView (s : State) : QueueView :=
  ⟨s.weigh.position, s.weigh.queue.length, s.queueStands, s.weigh.queue.head?.map fun p => s.distanceSince p.launch,
    s.weigh.openParcel.map fun p => ⟨p, s.distanceSince p.launch⟩, s.book.lots.map (·.account.inTransit),
    s.book.unassigned.inTransit⟩
/-- QUEUE_READ by the Weighing Unit (R105). -/
def doQueueRead (s : State) : Reply := .done (.queue s.queueView) s
/-- QUEUE_READ (R105). -/
def execQueueRead (link : Link) (tag : Byte) (s : State) : Host.Outcome State Fault Refusal :=
  takeRequest link tag (.queueRead link tag) doQueueRead s

end Sys2Proof.Machine
end

