-- ==== Sys2Proof/Machine/Tick.lean ====
section
/-! DEFINITION. Machine/Tick.lean: what one millisecond brings: the samples due at the reading that ends, then the new reading
with every age and every running timer counted, then the expiries of the timers found at their end, each the same operation
as its row (logs 4, 5, 6); and the request that an idle part takes next (R157). -/

namespace Sys2Proof.Machine

/-! ### The samples of the reading that ends (R139) -/

/-- A line is sampled at its raw level when it is to be sampled at this reading (R139). -/
def State.takeSample (s : State) (i : Nat) : State := if s.sampling i then s.sampleLine i (s.rawHigh i) else s
/-- The lines still to be sampled at this reading are sampled, in line order (R139, log 6). -/
def State.takeSamples (s : State) : State := (List.range 16).foldl State.takeSample s

/-! ### Counting one millisecond -/

/-- A running timer after one millisecond. -/
def countDown (t : Option Nat) : Option Nat := t.map (· - 1)
/-- A level record after one millisecond: the age rises at each whole second and stops at 3,600 s (R32). -/
def LevelRecord.counted (r : LevelRecord) : LevelRecord :=
  if Config.maxLevelAge ≤ r.age then r
  else if 1000 ≤ r.subMs + 1 then { r with age := r.age + 1, subMs := 0 }
  else { r with subMs := r.subMs + 1 }
/-- The Hatch Map after one millisecond: every level present ages (R32). -/
def Hatch.counted (h : Hatch) : Hatch := { h with levels := h.levels.map fun r => r.map LevelRecord.counted }
/-- The plan record after one millisecond: the consent window runs (R15). -/
def Plan.counted (p : Plan) : Plan :=
  { p with window := p.window.map fun w => { w with remaining := w.remaining - 1 } }
/-- A loader record after one millisecond: its timers run, and its report age rises from the first valid report on (R49,
R62). -/
def LoaderRecord.counted (r : LoaderRecord) : LoaderRecord :=
  { r with
    reportAge := if r.lastReport.isSome then min Config.maxReportAge (r.reportAge + 1) else r.reportAge
    travelTimer := countDown r.travelTimer
    spoutTimer := countDown r.spoutTimer }
/-- A zone record after one millisecond: its purge timer runs (R128). -/
def ZoneRecord.counted (r : ZoneRecord) : ZoneRecord := { r with timer := countDown r.timer }
/-- A link record after one millisecond: its silence timer runs (R160). -/
def LinkRecord.counted (r : LinkRecord) : LinkRecord := { r with silence := r.silence.map (· + 1) }
/-- The next reading of the time base: every age and every running timer is counted at once, so that a timer which an
expiry of this reading starts runs its whole duration; and no line has been sampled at this reading. -/
def State.counted (s : State) : State :=
  { s with
    timeBase := s.timeBase + 1
    plan := s.plan.counted
    hatch := s.hatch.counted
    loaders := ⟨s.loaders.l1.counted, s.loaders.l2.counted⟩
    gate := { s.gate with timer := countDown s.gate.timer }
    diverter := { s.diverter with timer := countDown s.diverter.timer }
    dust := ⟨s.dust.z1.counted, s.dust.z2.counted, s.dust.z3.counted⟩
    lines := { s.lines with sampled := List.replicate 16 false }
    links := ⟨s.links.terminal.counted, s.links.vessel.counted, s.links.survey.counted⟩ }

/-! ### The expiries found at this reading -/

/-- A level whose age has just passed 600 s: the event of R71 and the demand of R70. -/
def State.fireLevel (s : State) (h : Nat) : State :=
  match s.level? h with
  | some r => if r.age = Config.agedAfter + 1 ∧ r.subMs = 0 then (s.testAgedIn h).formDemand else s
  | none => s
/-- The levels of the twelve holds. -/
def State.fireLevels (s : State) : State := [1, 2, 3, 4, 5, 6, 7, 8, 9, 10, 11, 12].foldl State.fireLevel s
/-- The consent window at its end (R15). -/
def State.fireWindow (s : State) : State :=
  match s.plan.window with
  | some w => if w.remaining = 0 then s.windowExpired w else s
  | none => s
/-- A loader whose report age has reached 1,000 ms since its first report, in a state that watches it (R62). -/
def State.fireAge (s : State) (l : Loader) : State :=
  if (s.loader l).lastReport.isSome = true ∧ Config.driveLostAge ≤ (s.loader l).reportAge
      ∧ (s.loader l).state.watched = true then
    s.faultLoader l .driveLost
  else s
/-- A loader's travel timer at its end (R56). -/
def State.fireTravel (s : State) (l : Loader) : State :=
  if (s.loader l).travelTimer = some 0 ∧ (s.loader l).state = .travel then s.faultLoader l .travelTime else s
/-- A loader's spout timer at its end (R59). -/
def State.fireSpout (s : State) (l : Loader) : State :=
  if (s.loader l).spoutTimer = some 0 ∧ ((s.loader l).state = .lowering ∨ (s.loader l).state = .raising) then
    s.faultLoader l .spoutTime
  else s
/-- What a reading brings to a loader. -/
def State.fireLoader (s : State) (l : Loader) : State := ((s.fireAge l).fireTravel l).fireSpout l
/-- The closure timer at its end (R74). -/
def State.fireClosure (s : State) : State := if s.gate.timer = some 0 then s.closureExpired else s
/-- The move timer at its end (R80). -/
def State.fireMove (s : State) : State := if s.diverter.timer = some 0 then s.moveExpired else s
/-- The times whose age exceeds 1,800 s leave a zone's alarm history (R126). -/
def State.fireHistory (s : State) (z : Zone) : State := s.historyExpired z
/-- A zone's purge timer at its end (R128). -/
def State.firePurge (s : State) (z : Zone) : State := if (s.dust.get z).timer = some 0 then s.purgeExpired z else s
/-- What a reading brings to a zone. -/
def State.fireZone (s : State) (z : Zone) : State := (s.fireHistory z).firePurge z
/-- A link's silence timer at 2,000 ms (R160). -/
def State.fireSilence (s : State) (k : Link) : State :=
  match (s.link k).silence with
  | some n => if Config.silenceTime ≤ n then s.silent k else s
  | none => s
/-- The expiries found at a reading, in the order of log 6. -/
def State.fireAll (s : State) : State :=
  (((((((((((s.fireLevels.fireWindow).fireLoader .l1).fireLoader .l2).fireClosure).fireMove).fireZone .z1).fireZone
    .z2).fireZone .z3).fireSilence .terminal).fireSilence .vessel).fireSilence .survey)
/-- One millisecond of a part whose main supply holds; without it nothing happens (logs 4, 6, 15). -/
def State.tick (s : State) : State := if s.mainSupply then s.takeSamples.counted.fireAll else s

/-- The request at the head of a link's request queue when the output queue has room for its answer (R157). -/
def State.takable? (s : State) (k : Link) : Option Instr := if s.hasRoom k then (s.link k).requests.head? else none
/-- The request that an idle part takes: that of the first link, in the order terminal, vessel, survey, that has one
(R157, log 4). -/
def State.nextRequest? (s : State) : Option Instr :=
  if s.mainSupply then
    ((s.takable? .terminal).orElse fun _ => s.takable? .vessel).orElse fun _ => s.takable? .survey
  else none

end Sys2Proof.Machine
end

