-- ==== Sys2Proof/Machine/Dispatch.lean ====
section
/-! DEFINITION. Machine/Dispatch.lean: one arm for each constructor of Instr, each a direct call of the command's meaning. -/

namespace Sys2Proof.Machine

def exec (i : Instr) (s : State) : Host.Outcome State Fault Refusal :=
  match i with
  | .mooring tag sternX fender orientation => Sys2Proof.Machine.execMooring tag sternX fender orientation s
  | .zoneSet tag index enable xmin xmax ymin ymax => Sys2Proof.Machine.execZoneSet tag index enable xmin xmax ymin ymax s
  | .flush tag => Sys2Proof.Machine.execFlush tag s
  | .move tag loader hold point => Sys2Proof.Machine.execMove tag loader hold point s
  | .lower tag loader => Sys2Proof.Machine.execLower tag loader s
  | .raise tag loader => Sys2Proof.Machine.execRaise tag loader s
  | .stop tag loader => Sys2Proof.Machine.execStop tag loader s
  | .recover tag loader => Sys2Proof.Machine.execRecover tag loader s
  | .planAccept tag => Sys2Proof.Machine.execPlanAccept tag s
  | .planReturn tag => Sys2Proof.Machine.execPlanReturn tag s
  | .stepStart tag step => Sys2Proof.Machine.execStepStart tag step s
  | .stepStop tag step => Sys2Proof.Machine.execStepStop tag step s
  | .hold tag => Sys2Proof.Machine.execHold tag s
  | .resume tag => Sys2Proof.Machine.execResume tag s
  | .consentConfig tag seconds => Sys2Proof.Machine.execConsentConfig tag seconds s
  | .divert tag target => Sys2Proof.Machine.execDivert tag target s
  | .feedReset tag => Sys2Proof.Machine.execFeedReset tag s
  | .beltConfig tag pitch transit length runOut tail band => Sys2Proof.Machine.execBeltConfig tag pitch transit length runOut tail band s
  | .dustConfig tag zone seconds => Sys2Proof.Machine.execDustConfig tag zone seconds s
  | .dustReset tag zone => Sys2Proof.Machine.execDustReset tag zone s
  | .lineConfig tag line mode enable exponent => Sys2Proof.Machine.execLineConfig tag line mode enable exponent s
  | .lineLock tag => Sys2Proof.Machine.execLineLock tag s
  | .lineAck tag line => Sys2Proof.Machine.execLineAck tag line s
  | .hatchDefine tag hold aft fore inner outer points => Sys2Proof.Machine.execHatchDefine tag hold aft fore inner outer points s
  | .hatchDelete tag hold => Sys2Proof.Machine.execHatchDelete tag hold s
  | .level tag hold height => Sys2Proof.Machine.execLevel tag hold height s
  | .stepInsert tag before hold point loader lot target consent => Sys2Proof.Machine.execStepInsert tag before hold point loader lot target consent s
  | .stepDelete tag step => Sys2Proof.Machine.execStepDelete tag step s
  | .stepAmend tag step field value => Sys2Proof.Machine.execStepAmend tag step field value s
  | .stepSkip tag step => Sys2Proof.Machine.execStepSkip tag step s
  | .planSubmit tag => Sys2Proof.Machine.execPlanSubmit tag s
  | .planWithdraw tag => Sys2Proof.Machine.execPlanWithdraw tag s
  | .planClear tag => Sys2Proof.Machine.execPlanClear tag s
  | .consent tag step decision => Sys2Proof.Machine.execConsent tag step decision s
  | .halt tag => Sys2Proof.Machine.execHalt tag s
  | .release tag => Sys2Proof.Machine.execRelease tag s
  | .endPour tag step => Sys2Proof.Machine.execEndPour tag step s
  | .metrologySet tag quantum span => Sys2Proof.Machine.execMetrologySet tag quantum span s
  | .metrologyLock tag => Sys2Proof.Machine.execMetrologyLock tag s
  | .lotOpen tag lot reference ordered => Sys2Proof.Machine.execLotOpen tag lot reference ordered s
  | .lotClose tag lot => Sys2Proof.Machine.execLotClose tag lot s
  | .bookClear tag => Sys2Proof.Machine.execBookClear tag s
  | .probe link tag hold point => Sys2Proof.Machine.execProbe link tag hold point s
  | .bookRead link tag record part => Sys2Proof.Machine.execBookRead link tag record part s
  | .planRead link tag position => Sys2Proof.Machine.execPlanRead link tag position s
  | .loaderRead link tag loader => Sys2Proof.Machine.execLoaderRead link tag loader s
  | .queueRead link tag => Sys2Proof.Machine.execQueueRead link tag s
  | .status link tag part => Sys2Proof.Machine.execStatus link tag part s
  | .fetchEvents link tag => Sys2Proof.Machine.execFetchEvents link tag s
  | .routeSet link tag codes => Sys2Proof.Machine.execRouteSet link tag codes s
  | .masterFrameReceived link bytes => Sys2Proof.Machine.execMasterFrameReceived link bytes s
  | .framingError link => Sys2Proof.Machine.execFramingError link s
  | .frameGapTimeout link => Sys2Proof.Machine.execFrameGapTimeout link s
  | .frameSent link => Sys2Proof.Machine.execFrameSent link s
  | .silenceTimerExpiry link => Sys2Proof.Machine.execSilenceTimerExpiry link s
  | .linkBreak link => Sys2Proof.Machine.execLinkBreak link s
  | .breakEnd link => Sys2Proof.Machine.execBreakEnd link s
  | .positionReport loader status x y => Sys2Proof.Machine.execPositionReport loader status x y s
  | .driveFrameTimeout loader => Sys2Proof.Machine.execDriveFrameTimeout loader s
  | .driveFramingError loader => Sys2Proof.Machine.execDriveFramingError loader s
  | .orderFrameSent loader => Sys2Proof.Machine.execOrderFrameSent loader s
  | .travelTimerExpiry loader => Sys2Proof.Machine.execTravelTimerExpiry loader s
  | .spoutTimerExpiry loader => Sys2Proof.Machine.execSpoutTimerExpiry loader s
  | .driveLost loader => Sys2Proof.Machine.execDriveLost loader s
  | .consentWindowExpiry => Sys2Proof.Machine.execConsentWindowExpiry s
  | .conditionChange line high => Sys2Proof.Machine.execConditionChange line high s
  | .closureTimerExpiry => Sys2Proof.Machine.execClosureTimerExpiry s
  | .moveTimerExpiry => Sys2Proof.Machine.execMoveTimerExpiry s
  | .levelAgeExpiry hold => Sys2Proof.Machine.execLevelAgeExpiry hold s
  | .purgeTimerExpiry zone => Sys2Proof.Machine.execPurgeTimerExpiry zone s
  | .alarmHistoryExpiry zone => Sys2Proof.Machine.execAlarmHistoryExpiry zone s
  | .increment => Sys2Proof.Machine.execIncrement s
  | .beltAdvance => Sys2Proof.Machine.execBeltAdvance s
  | .warmReset raw strapClosed => Sys2Proof.Machine.execWarmReset raw strapClosed s
  | .retainedClear raw strapClosed => Sys2Proof.Machine.execRetainedClear raw strapClosed s
  | .powerOn raw strapClosed => Sys2Proof.Machine.execPowerOn raw strapClosed s
  | .mainSupplyLoss => Sys2Proof.Machine.execMainSupplyLoss s
  | .lineSample line high => Sys2Proof.Machine.execLineSample line high s
  | .markerReceived link => Sys2Proof.Machine.execMarkerReceived link s
  | .partialFrameAbandoned link => Sys2Proof.Machine.execPartialFrameAbandoned link s
  | .syncByteReceived loader => Sys2Proof.Machine.execSyncByteReceived loader s
  | .driveFrameDiscarded loader bytes => Sys2Proof.Machine.execDriveFrameDiscarded loader bytes s
  | .bkokDeasserted => Sys2Proof.Machine.execBkokDeasserted s

end Sys2Proof.Machine
end

