-- ==== Sys2Proof/Machine/Step.lean ====
section
/-! DEFINITION. Machine/Step.lean: one step takes the command at the front of the queue; on an empty queue the part takes the
next request of a master link, or one millisecond passes (log 4). -/

namespace Sys2Proof.Machine

/-- The command queue replaced. -/
def State.withPending (s : State) (q : List Instr) : State := { s with pending := q }
/-- One step on an empty command queue: the next request of a master link is taken, or one millisecond passes (log 4). -/
def idle (s : State) : Host.Outcome State Fault Refusal :=
  match s.nextRequest? with
  | some i => exec i s
  | none => .next s.tick
/-- One step: the command at the front of the queue runs with the queue's rest. -/
def step (s : State) : Host.Outcome State Fault Refusal :=
  match s.pending with
  | c :: rest => exec c (s.withPending rest)
  | [] => idle s
/-- The state with the command that a word spells put at the front of the queue. No word spells one (log 27). -/
def State.withFetchWord (s : State) (nbits w : Nat) : State :=
  match decodeTableWord nbits w with
  | some i => s.withPending (i :: s.pending)
  | none => s

end Sys2Proof.Machine
end

