-- ==== Sys2Proof/Safety.lean ====
section
/-! DEFINITION. Safety.lean: the terms of the claims: the parts of the state and what a command keeps, the taking and the
answering of a request, and the invariants that every step keeps. -/

namespace Sys2Proof.Machine

/-! ### Parts and frames -/

/-- The parts of the state, for frames. -/
inductive Part where
  | queue | supply | clock | rate | plan | hatch | cache | loader (l : Loader) | gate | diverter | weigh | book
  | zone (z : Zone) | lines | port (l : Loader) | link (k : Link) | notice (k : Link)
  deriving DecidableEq, Repr

/-- A part reads the same in two states. -/
def State.same (s t : State) : Part → Prop
  | .queue => t.pending = s.pending
  | .supply => t.mainSupply = s.mainSupply ∧ t.bankHeld = s.bankHeld
  | .clock => t.timeBase = s.timeBase
  | .rate => t.fastRate = s.fastRate
  | .plan => t.plan = s.plan
  | .hatch => t.hatch = s.hatch
  | .cache => t.cache = s.cache
  | .loader l => t.loader l = s.loader l
  | .gate => t.gate = s.gate
  | .diverter => t.diverter = s.diverter
  | .weigh => t.weigh = s.weigh
  | .book => t.book = s.book
  | .zone z => t.dust.get z = s.dust.get z
  | .lines => t.lines = s.lines
  | .port l => t.port l = s.port l
  | .link k => t.link k = s.link k
  | .notice k => t.notice k = s.notice k
/-- Every part outside a list reads as before. -/
def State.keeps (s t : State) (may : List Part) : Prop := ∀ p, p ∉ may → s.same t p
/-- The parts that an event may change: the notice records, and the output queues that take notices (R165, R166). -/
def wires : List Part :=
  [.link .terminal, .link .vessel, .link .survey, .notice .terminal, .notice .vessel, .notice .survey]
/-- Every part outside a list reads as before, but for those that events may change. -/
def State.keepsNotifying (s t : State) (may : List Part) : Prop := s.keeps t (may ++ wires)

/-! ### Requests -/

/-- A request given on a link is taken at once: the supply holds, no request waits on the link, its output queue has room,
and no reserved place stands in it (R157, R159). -/
abbrev State.takes (s : State) (k : Link) : Prop :=
  s.mainSupply = true ∧ (s.link k).requests = [] ∧ s.hasRoom k = true
    ∧ ((s.link k).output.all fun f => !f.isReserved) = true
/-- The answer of a taken request placed at the tail of the link's output queue (R159). -/
def State.answered (s : State) (k : Link) (tag : Byte) (code : AnswerCode) (record : AnswerRecord) : State :=
  s.placeFrame k (.answer tag code record)
/-- Every frame of a list is a notice. -/
def onlyNotices (fs : List OutFrame) : Prop := ∀ f ∈ fs, ∃ e, f = .notice e
/-- A link differs from before only by notices placed at the tail of its output queue. -/
def LinkRecord.noticed (r q : LinkRecord) : Prop := ∃ fs, onlyNotices fs ∧ q = { r with output := r.output ++ fs }
/-- A request has been answered on its link, the answer ahead of the notices that its taking raised (R157, R159; that order is
read from the reserved place of R159: log 8); the other links have taken notices only. -/
def State.served (s t : State) (k : Link) (tag : Byte) (code : AnswerCode) (record : AnswerRecord) : Prop :=
  (∃ fs, onlyNotices fs ∧
    t.link k = { s.link k with output := (s.link k).output ++ .answer tag code record :: fs })
    ∧ ∀ j, j ≠ k → (s.link j).noticed (t.link j)
/-- Every link has taken notices only. -/
def State.noticedOnly (s t : State) : Prop := ∀ k, (s.link k).noticed (t.link k)
/-- A run-out record without a mark stands only while the gate-closed condition does not hold (R24). -/
abbrev State.marked (s : State) : Prop :=
  (s.plan.runOut.all fun r => r.mark.isSome || !s.gateShut) = true
/-- An event stands in every notice record as the latest occurrence of its class (R165). -/
def State.tells (t : State) (e : Event) : Prop := ∀ k, ((t.notice k).entry? e.code).map (·.last) = some e
/-- Every notice record has its sixteen places (R164). -/
abbrev State.noticesShaped (s : State) : Prop :=
  s.notices.terminal.pending.length = 16 ∧ s.notices.vessel.pending.length = 16 ∧ s.notices.survey.pending.length = 16

/-! ### Records after an operation, written out from the rules -/

/-- An entry after an invalidation: as it was when its key is not concerned, and otherwise as R44 states. -/
def invalidatedAs (concerned : Bool) : CacheEntry → CacheEntry
  | .invalid => .invalid
  | .valid k p => if concerned then .invalid else .valid k p
  | .pinned k p l => if concerned then .stale k p l else .pinned k p l
  | .stale k p l => .stale k p l

/-- An entry after a release for a loader: PINNED for it becomes VALID with its key and position, PINNED_STALE for it INVALID, and
any other stands (R42). -/
def releasedAs (l : Loader) : CacheEntry → CacheEntry
  | .pinned k p m => if m = l then .valid k p else .pinned k p m
  | .stale k p m => if m = l then .invalid else .stale k p m
  | e => e

/-- The record of a lookup that has found a position at an entry: ZONE with the lowest index of the enabled keep-out zones that
hold it, and DONE otherwise (R35, R39, R48). -/
def State.foundRecord (s : State) (hit : Bool) (i : Nat) (q : Position) : ProbeRecord :=
  match s.zoneAt? q with
  | none => ⟨.done, some (q.x, q.y), some hit, none, some i, none⟩
  | some z => ⟨.zone, some (q.x, q.y), some hit, some z, some i, none⟩
/-- The pointer after the advance that every lookup makes (R39). -/
def nextPointer (p : Nat) : Nat := if 7 ≤ p then 0 else p + 1
/-- The state after a lookup that has loaded no entry: the replacement pointer has advanced (R39). -/
def State.pointerMoved (s : State) : State := s.withCache ⟨s.cache.entries, nextPointer s.cache.pointer⟩

/-- The record of a loader that has entered FAULT (R64). -/
def faultedAs (r : LoaderRecord) (c : FaultCause) : LoaderRecord :=
  { r with state := .fault, cause := some c, travelTimer := none, spoutTimer := none }

/-- No step feeds or is suspended, no run-out waits for its mark, and the gate demand is CLOSED: forming the demand again
changes nothing (R24, R69). -/
abbrev State.still (s : State) : Prop :=
  (∀ st ∈ s.plan.steps, st.isRunning = false) ∧ s.marked ∧ s.gate.demand = .closed
/-- A claim of a loader leaves at least 2,000 mm to the other loader's claim, L1's lying below L2's (R51). -/
def State.claimFits (s : State) (l : Loader) (own : Claim) : Prop :=
  ∀ other : Claim, (s.loader (otherLoader l)).claim = some other →
    2000 ≤ (match l with
      | .l1 => other.lower - own.upper
      | .l2 => own.lower - other.upper)
/-- The stationary claim at an X (R51). -/
def claimAt (x : Nat) : Claim := ⟨(x : Int) - 3000, (x : Int) + 3000⟩
/-- The cut-off margin of a step whose committed mass is 0 is positive (R12 check 10, R102). -/
def State.hasMargin (s : State) (st : StepRecord) : Prop :=
  s.weigh.config.tail < st.target
    ∧ ∀ (r : LotRecord) (o : Nat), s.lot? st.lot = some r → r.ordered = some o →
      s.weigh.config.tail + (r.account.delivered.sum + r.account.inTransit) < o
/-- The ten checks of STEP_START hold for a step (R12). -/
def State.mayStart (s : State) (st : StepRecord) : Prop :=
  s.plan.state = .accepted
    ∧ (∃ pre post : List StepRecord, s.plan.steps = pre ++ st :: post ∧ ∀ q ∈ pre, q.state ≠ .pending)
    ∧ st.state = .pending ∧ st.accepted = true
    ∧ (∀ q ∈ s.plan.steps, q.state ≠ .consentWait ∧ q.state ≠ .feeding ∧ q.state ≠ .suspended)
    ∧ (∃ r : LotRecord, s.lot? st.lot = some r ∧ r.state = .opened)
    ∧ s.weigh.metrology.locked = true
    ∧ (s.loader st.loader).state = .lowered ∧ s.pinKey? st.loader = some ⟨st.hold, st.point⟩
    ∧ s.diverter.state = atLoader st.loader
    ∧ s.dustOf st.loader ≠ .stop
    ∧ s.hasMargin st
/-- No parcel on the belt carries a step's id, and the step has received nothing: its committed mass is 0 (R102). -/
def State.unpoured (s : State) (st : StepRecord) : Prop :=
  st.delivered = 0 ∧ (∀ p ∈ s.weigh.queue, p.tag ≠ some st.id) ∧ ∀ p : Parcel, s.weigh.openParcel = some p → p.tag ≠ some st.id
/-- The reasons that stand at an entry to feeding, the open parcel's closing counted, with the two that a grant tests
(R13, R16). -/
def State.standing (s : State) (dust loader : Bool) : ReasonSet :=
  { ReasonSet.none with
    dust := dust
    estop := s.estop
    link := !(s.link .terminal).up
    loader := loader
    queue := decide (480 ≤ s.weigh.queue.length + s.weigh.openParcel.toList.length)
    gate := s.gate.fault }
/-- A step as it stands once it has entered feeding with a set of reasons (R13). -/
def StepRecord.fedWith (st : StepRecord) (rs : ReasonSet) : StepRecord :=
  { st with state := if rs = ReasonSet.none then .feeding else .suspended, suspension := rs }
/-- A running step to which LOADER has been added: it is SUSPENDED (R19). -/
def StepRecord.unloaded (st : StepRecord) : StepRecord :=
  { st with state := .suspended, suspension := { st.suspension with loader := true } }
/-- A running step from which LOADER has been removed: its state stands (R19). -/
def StepRecord.reloaded (st : StepRecord) : StepRecord := { st with suspension := { st.suspension with loader := false } }
/-- A step's loader is LOWERED and pinned to the step's hold and pour point, and the diverter is at it (R19). -/
abbrev State.pours (s : State) (st : StepRecord) : Prop :=
  (s.loader st.loader).state = .lowered ∧ s.pinKey? st.loader = some ⟨st.hold, st.point⟩
    ∧ s.diverter.state = atLoader st.loader
/-- The closing conditions of a lot (R114). -/
def State.lotQuiet (s : State) (n : Nat) (r : LotRecord) : Prop :=
  (∀ st ∈ s.plan.steps, st.lot = n →
      st.state ≠ .consentWait ∧ st.state ≠ .feeding ∧ st.state ≠ .suspended ∧ st.state ≠ .cutoff)
    ∧ r.account.inTransit = 0 ∧ (∀ p ∈ s.weigh.queue, p.lot ≠ some n)
    ∧ ∀ p : Parcel, s.weigh.openParcel = some p → p.lot ≠ some n
/-- A change of the filtered level to `high` is one that a line's mode selects: to high in HIGH and RISING, to low in LOW and
FALLING, and either in BOTH (R140). -/
def LineRecord.selects (r : LineRecord) (high : Bool) : Bool :=
  match r.mode with
  | .high => high
  | .low => !high
  | .rising => high
  | .falling => !high
  | .both => true
/-- A change of a line's filtered level to `high` asserts its condition: the line is enabled and deasserted, and its mode
selects the change (R140). -/
abbrev State.mayRise (s : State) (i : Fin 16) (high : Bool) : Prop :=
  s.mainSupply = true ∧ s.lines.records.length = 16 ∧ (s.line i).enabled = true ∧ (s.line i).condition = false
    ∧ (s.line i).filtered = !high ∧ (s.line i).selects high = true
/-- A change of a line's filtered level to `high` deasserts its condition: the line is enabled and asserted, in HIGH mode
falling low or in LOW mode rising high (R140). -/
abbrev State.mayFall (s : State) (i : Fin 16) (high : Bool) : Prop :=
  s.mainSupply = true ∧ s.lines.records.length = 16 ∧ (s.line i).enabled = true ∧ (s.line i).condition = true
    ∧ (s.line i).filtered = !high ∧ ((s.line i).mode = .high ∧ high = false ∨ (s.line i).mode = .low ∧ high = true)
/-- The diverter state that R79 derives from how many of the conditions of lines 10, 11 and 12 are asserted, where the one
asserted is, the flap command and the lapse flag. -/
def diverterBy (asserted : Nat) (place : Option FlapTarget) (command : Option FlapTarget) (lapse : Bool) : DiverterState :=
  if 2 ≤ asserted ∨ lapse = true then .unknown
  else
    match place with
    | some p => if command = none ∨ command = some p then p.reached else .moving
    | none => .moving
/-- The flap position whose condition alone is asserted (R79). -/
def placeOf (c10 c11 c12 : Bool) : Option FlapTarget :=
  if c10 && !c11 && !c12 then some .l1
  else if !c10 && c11 && !c12 then some .l2
  else if !c10 && !c11 && c12 then some .chute
  else none

/-! ### Orders, requests and the passing of time, written out from the rules -/

/-- A drive port on which an order has been issued (R148): a STOP removes every waiting order, any other order issued while
four wait removes the oldest; a port that is not sending numbers and sends the head of the queue. -/
def portAfter (p : DrivePort) (o : Order) : DrivePort :=
  match p.sending, (if o = .stop then [] else if p.orders.length < 4 then p.orders else p.orders.drop 1) ++ [o] with
  | none, first :: rest => { p with orders := rest, counter := p.counter + 1, sending := some (p.counter, first) }
  | _, waiting => { p with orders := waiting }
/-- The notice that a valid frame sends before it is checked, when it is the first to bring the link UP after a reset: RESTART
with its last detail, if it is pending and routed and there is room (R166, R169). -/
def State.restartFrames (s : State) (k : Link) : List OutFrame :=
  if (s.link k).up = false ∧ (s.link k).heardSinceReset = false ∧ (s.notice k).routed 15 = true ∧ s.hasRoom k = true then
    (((s.notice k).entry? 15).map fun p => OutFrame.notice p.last).toList
  else []
/-- A link on which a valid frame has arrived, before the frame is checked: the receiver hunts, the link is UP with its silence
timer restarted, and a RESTART notice owed to it has been placed (R153, R160, R169). -/
def State.heardLink (s : State) (k : Link) : LinkRecord :=
  { s.link k with
    up := true
    silence := some 0
    receiver := .hunting
    heardSinceReset := (s.link k).heardSinceReset || !(s.link k).up
    output := (s.link k).output ++ s.restartFrames k }
/-- What the checks of R155 make of a valid frame's kind, tag, code and body: the request queue after it, and the answer code of
a link refusal, if one is formed. -/
def State.verdict (s : State) (k : Link) (kind tag code : Byte) (body : List Byte) (queue : List Instr)
    (refusal : Option AnswerCode) : Prop :=
  kind ≠ 0x01#8 ∧ queue = (s.link k).requests ∧ refusal = none
    ∨ kind = 0x01#8 ∧ (code.toNat = 0 ∨ 50 < code.toNat) ∧ queue = (s.link k).requests ∧ refusal = some .unknown
    ∨ kind = 0x01#8 ∧ 1 ≤ code.toNat ∧ code.toNat ≤ 50 ∧ decodeRequest k tag code.toNat body = none
      ∧ queue = (s.link k).requests ∧ refusal = some .malformed
    ∨ kind = 0x01#8 ∧ 1 ≤ code.toNat ∧ code.toNat ≤ 50 ∧ ∃ i : Instr, decodeRequest k tag code.toNat body = some i
      ∧ (entitled k code.toNat = false ∧ queue = (s.link k).requests ∧ refusal = some .denied
        ∨ entitled k code.toNat = true ∧ (s.link k).requests.length < 4 ∧ queue = (s.link k).requests ++ [i]
          ∧ refusal = none
        ∨ entitled k code.toNat = true ∧ 4 ≤ (s.link k).requests.length ∧ queue = (s.link k).requests
          ∧ refusal = some .full)
/-- The link whose request queue a request joins: that of the one role that may send it, or the one it names (R156). -/
def requestOn (i : Instr) : Option Link :=
  match requestCode i with
  | some c =>
    if c ≤ 23 then some .terminal
    else if c ≤ 37 then some .vessel
    else if c ≤ 42 then some .survey
    else (requestLink i).filter fun k => entitled k c
  | none => none
/-- No link has a request that it can take: each is without a request or without room for the answer (R157). -/
def State.noRequest (s : State) : Prop := ∀ k : Link, (s.link k).requests = [] ∨ s.hasRoom k = false
/-- An idle part: no command and no request to take, the main supply on. -/
def State.idles (s : State) : Prop := s.pending = [] ∧ s.mainSupply = true ∧ s.noRequest
/-- No sample due at this reading of the time base changes a filtered level: it agrees with the level, or is not the third
that disagrees (R139). -/
def State.linesRest (s : State) : Prop :=
  s.lines.records.length = 16 ∧ ∀ i : Fin 16, s.sampling i = true → s.rawHigh i = (s.line i).filtered ∨ (s.line i).runCount < 2
/-- No timer ends, no level passes 600 s and no drive or link is lost at the next reading of the time base. -/
def State.uneventful (s : State) : Prop :=
  (∀ (h : Nat) (r : LevelRecord), s.level? h = some r → r.age ≠ 600 ∨ r.subMs < 999)
    ∧ (∀ w : ConsentWindow, s.plan.window = some w → 1 < w.remaining)
    ∧ (∀ l : Loader, (s.loader l).lastReport = none ∨ (s.loader l).reportAge < 999 ∨ (s.loader l).state = .unreported
        ∨ (s.loader l).state = .fault)
    ∧ (∀ (l : Loader) (n : Nat), (s.loader l).travelTimer = some n ∨ (s.loader l).spoutTimer = some n → 1 < n)
    ∧ (∀ n : Nat, s.gate.timer = some n ∨ s.diverter.timer = some n → 1 < n)
    ∧ (∀ (z : Zone) (n : Nat), (s.dust.get z).timer = some n → 1 < n)
    ∧ ∀ (k : Link) (n : Nat), (s.link k).silence = some n → n < 1999
/-- A remaining time 1 ms later. -/
def msLess (t : Option Nat) : Option Nat := t.map fun n => n - 1
/-- A level record 1 ms later: its age counts whole seconds and stops at 3,600 s (R32). -/
def LevelRecord.later (r : LevelRecord) : LevelRecord :=
  if 3600 ≤ r.age then r
  else if r.subMs < 999 then { r with subMs := r.subMs + 1 }
  else { r with age := r.age + 1, subMs := 0 }
/-- A loader record 1 ms later: its timers run, and its report age rises once there has been a report (R49, R62). -/
def LoaderRecord.later (r : LoaderRecord) : LoaderRecord :=
  { r with
    reportAge := if r.lastReport = none then r.reportAge else min 4294967295 (r.reportAge + 1)
    travelTimer := msLess r.travelTimer
    spoutTimer := msLess r.spoutTimer }
/-- A zone record 1 ms later, at the reading `now`: its purge timer runs, and the times older than 1,800 s have left its
history (R126, R128). -/
def ZoneRecord.later (r : ZoneRecord) (now : Word) : ZoneRecord :=
  { r with timer := msLess r.timer, history := r.history.filter fun t => decide ((now - t).toNat ≤ 1800000) }
/-- A link record 1 ms later: its silence timer runs (R160). -/
def LinkRecord.later (r : LinkRecord) : LinkRecord := { r with silence := r.silence.map fun n => n + 1 }
/-- A line record after a sample that does not change its filtered level (R139). -/
def LineRecord.sampledAs (r : LineRecord) (raw : Bool) : LineRecord :=
  { r with runCount := if raw = r.filtered then 0 else r.runCount + 1 }
/-- The sixteen line records once those due at this reading have been sampled without a change of level (R139). -/
def State.linesSampled (s : State) : List LineRecord :=
  (List.range 16).map fun i => if s.sampling i = true then (s.line i).sampledAs (s.rawHigh i) else s.line i
/-- The part 1 ms later when nothing ends (R15, R32, R49, R62, R68, R78, R123, R126, R128, R139, R160). -/
def State.later (s : State) : State :=
  { s with
    timeBase := s.timeBase + 1
    plan := { s.plan with window := s.plan.window.map fun w => ⟨w.step, w.number, w.remaining - 1⟩ }
    hatch := { s.hatch with levels := s.hatch.levels.map fun r => r.map LevelRecord.later }
    loaders := ⟨s.loaders.l1.later, s.loaders.l2.later⟩
    gate := { s.gate with timer := msLess s.gate.timer }
    diverter := { s.diverter with timer := msLess s.diverter.timer }
    dust := ⟨s.dust.z1.later (s.timeBase + 1), s.dust.z2.later (s.timeBase + 1), s.dust.z3.later (s.timeBase + 1)⟩
    lines := ⟨s.linesSampled, s.lines.locked, s.lines.raw, List.replicate 16 false⟩
    links := ⟨s.links.terminal.later, s.links.vessel.later, s.links.survey.later⟩ }
/-- The mass of the parcels of a list that are booked to a record. -/
def massOf (ps : List Parcel) (lot : Option Nat) : Nat := ((ps.filter fun p => p.lot == lot).map (·.mass)).sum
/-- A parcel's tag names a step of a loader and a hold: a delivery there is on-plan (R100). -/
def State.forStep (s : State) (l : Loader) (h : Nat) (p : Parcel) : Bool :=
  s.plan.steps.any fun st => p.tag == some st.id && st.loader == l && st.hold == h

/-! ### Invariants -/

/-- The output lines of the gate and of the flap follow the demand and the flap command (R72, R78). -/
abbrev State.outputsFollow (s : State) : Prop :=
  s.gate.openLine = (s.gate.demand != .closed) ∧ s.gate.fullLine = (s.gate.demand == .full)
    ∧ s.diverter.toL1 = (s.diverter.command == some .l1) ∧ s.diverter.toL2 = (s.diverter.command == some .l2)
    ∧ s.diverter.toReturn = (s.diverter.command == some .chute)
/-- The gate state goes with the demand, the gate fault and the closure timer (R68, R73, R74). -/
abbrev Gate.sound (g : Gate) : Prop :=
  (g.demand ≠ .closed ↔ g.state = .opened) ∧ (g.fault = true ↔ g.state = .fault)
    ∧ (g.timer.isSome = true ↔ g.state = .closing)
/-- The diverter state is the one derived from the conditions, the flap command and the lapse flag, and the move timer runs
exactly in MOVING (R79, R80). -/
abbrev State.diverterSound (s : State) : Prop :=
  s.diverter.state = s.derivedDiverter s.diverter.command s.diverter.lapse
    ∧ (s.diverter.timer.isSome = true ↔ s.diverter.state = .moving)
/-- The gate record and the diverter record are sound, and the output lines follow them. -/
abbrev State.feedSound (s : State) : Prop :=
  s.outputsFollow ∧ s.gate.sound ∧ s.diverterSound ∧ s.lines.records.length = 16
/-- Sixteen lines; a disabled line is deasserted, and a line in a level mode follows its filtered level (R140). -/
abbrev FieldLines.sound (f : FieldLines) : Prop :=
  f.records.length = 16 ∧ ∀ r ∈ f.records,
    (r.enabled = false → r.condition = false) ∧ (r.enabled = true → r.mode = .high → r.condition = r.filtered)
      ∧ (r.enabled = true → r.mode = .low → r.condition = !r.filtered) ∧ r.runCount ≤ 2
/-- A zone's state fits its two conditions and its history (R125 to R130). -/
def State.zoneFits (s : State) (z : Zone) : Bool :=
  match (s.dust.get z).state with
  | .clear => !s.warns z && !s.alarms z
  | .warn => s.warns z && !s.alarms z
  | .alarm => s.warns z || s.alarms z
  | .purge => !s.alarms z
  | .lockout => (s.dust.get z).history.isEmpty
/-- A zone's state goes with its two conditions, its purge timer and its history (R125 to R130). -/
abbrev State.zoneSound (s : State) (z : Zone) : Prop :=
  ((s.dust.get z).timer.isSome = true ↔ (s.dust.get z).state = .purge) ∧ (s.dust.get z).history.length ≤ 2 ∧ s.zoneFits z = true
/-- The lines and the three zones are sound. -/
abbrev State.dustSound (s : State) : Prop := s.lines.sound ∧ s.zoneSound .z1 ∧ s.zoneSound .z2 ∧ s.zoneSound .z3
/-- The travel states in which a loader holds no pin (R42). -/
def TravelState.free : TravelState → Bool
  | .unreported => true
  | .idle => true
  | _ => false
/-- The travel states in which a loader holds exactly one pin (R42). -/
def TravelState.holds : TravelState → Bool
  | .unreported => false
  | .idle => false
  | .fault => false
  | _ => true
/-- A loader's pin and last report go with its travel state (R42, R49). -/
abbrev State.loaderSound (s : State) (l : Loader) : Prop :=
  ((s.loader l).state.free = true → s.pin? l = none) ∧ ((s.loader l).state.holds = true → (s.pin? l).isSome = true)
    ∧ ((s.loader l).state ≠ .unreported → (s.loader l).lastReport.isSome = true)
/-- Eight entries, no key held twice, at most one pin for each loader (R38, R42), and the loaders' pins sound. -/
abbrev State.pinsSound (s : State) : Prop :=
  s.cache.entries.length = 8 ∧ s.cache.pointer ≤ 7 ∧ (s.cache.entries.filterMap CacheEntry.key?).Nodup
    ∧ (s.cache.entries.filterMap CacheEntry.pinner?).Nodup ∧ s.loaderSound .l1 ∧ s.loaderSound .l2
/-- The gate demand is the one its terms give (R69, R70); ids are distinct and below the id counter (R4). -/
abbrev State.demandSound (s : State) : Prop :=
  s.gate.demand = s.demandNow ∧ (s.plan.steps.map (·.id)).Nodup ∧ ∀ st ∈ s.plan.steps, st.id < s.plan.idCounter
/-- A link's queues within their capacities, no reserved place between steps, and its timer running exactly while it is UP
(R150, R159, R160). -/
abbrev LinkRecord.sound (r : LinkRecord) : Prop :=
  r.requests.length ≤ 4 ∧ r.output.length ≤ 8 ∧ (r.output.countP (·.isHeld)) ≤ 6
    ∧ (r.output.all fun f => !f.isReserved) = true ∧ (r.silence.isSome = true ↔ r.up = true)
/-- Every mass field of an account lies in 0..4,000,000,000 kg (R107). -/
def Account.inRange (a : Account) : Bool :=
  ([a.weighed, a.returned, a.spill, a.unresolved, a.inTransit] ++ a.delivered ++ a.offPlan).all fun m => decide (m ≤ 4000000000)
/-- The tables keep their sizes: twelve holds and levels, four keep-out zones, sixteen lines with their raw levels and samples,
and sixteen places of each notice record; the six fields of the belt configuration lie in their ranges with D at most
480 × L; and every mass field of the book lies in its range (R28, R31, R34, R87, R107, R138, R164). -/
def State.tablesFit (s : State) : Bool :=
  s.hatch.holds.length == 12 && s.hatch.levels.length == 12 && s.hatch.zones.length == 4
    && s.lines.records.length == 16 && s.lines.raw.length == 16 && s.lines.sampled.length == 16
    && [Link.terminal, .vessel, .survey].all (fun k => (s.notice k).pending.length == 16)
    && beltFieldsOk s.weigh.config && decide (s.weigh.config.transit ≤ 480 * s.weigh.config.length)
    && s.book.unassigned.inRange && s.book.lots.all fun r => r.account.inRange
/-- Every collection within its capacity (00 Collections; R2, R95, R126, R148, R150), and every table of its size. -/
abbrev State.withinCapacity (s : State) : Prop :=
  s.plan.steps.length ≤ 64 ∧ s.weigh.queue.length ≤ 512 ∧ s.ports.l1.orders.length ≤ 4 ∧ s.ports.l2.orders.length ≤ 4
    ∧ s.links.terminal.sound ∧ s.links.vessel.sound ∧ s.links.survey.sound ∧ s.tablesFit = true
/-- While the gate fault stands a running step is SUSPENDED with GATE in its set (R13, R74, R75). -/
def State.faultHolds (s : State) : Bool :=
  !s.gate.fault || s.plan.steps.all fun st => !st.isRunning || (st.state == .suspended && st.suspension.gate)
/-- At most one step is in CONSENT_WAIT, FEEDING or SUSPENDED (R12); the consent window is that of the step in
CONSENT_WAIT (R2); a step holds reasons only while SUSPENDED (R3). Ids are distinct and below the counter (R4), and a
gate fault holds the running step (R74). -/
abbrev State.planSound (s : State) : Prop :=
  (s.plan.steps.map (·.id)).Nodup ∧ (∀ st ∈ s.plan.steps, st.id < s.plan.idCounter)
    ∧ s.plan.steps.countP StepRecord.isCurrent ≤ 1
    ∧ (∀ st ∈ s.plan.steps, st.state = .consentWait → (s.plan.window.any fun w => w.step == st.id) = true)
    ∧ (s.plan.window.all fun w => s.plan.steps.any fun st => st.id == w.step && st.state == .consentWait) = true
    ∧ (∀ st ∈ s.plan.steps, st.state ≠ .suspended → st.suspension = ReasonSet.none) ∧ s.faultHolds = true
/-- An account is balanced: the weighed total equals the accounts it has gone to (R109). -/
abbrev Account.balanced (a : Account) : Prop :=
  a.weighed = a.delivered.sum + a.returned + a.spill + a.unresolved + a.inTransit
/-- A balanced account with twelve holds, each hold's off-plan value at most its delivered value, and its residue below one
kilogram (R90, R107, R109). -/
abbrev Account.sound (a : Account) : Prop :=
  a.balanced ∧ a.delivered.length = 12 ∧ a.offPlan.length = 12 ∧ (∀ p ∈ a.offPlan.zip a.delivered, p.1 ≤ p.2)
    ∧ a.residue < 1000000
/-- The parcels on the belt, the open parcel included. -/
def State.onBeltAll (s : State) : List Parcel := s.weigh.queue ++ s.weigh.openParcel.toList
/-- The mass on the belt that is booked to a lot, or to the unassigned record. -/
def State.beltMass (s : State) (lot : Option Nat) : Nat :=
  ((s.onBeltAll.filter fun p => p.lot == lot).map (·.mass)).sum
/-- A lot takes bookings: it is OPEN or CLOSING (R110). -/
def State.lotTakes (s : State) (n : Nat) : Bool :=
  match s.lot? n with
  | some r => r.state == .opened || r.state == .closing
  | none => false
/-- A step has not begun: it is PENDING or in CONSENT_WAIT. -/
def StepRecord.notBegun (st : StepRecord) : Bool := st.state == .pending || st.state == .consentWait
/-- A step that runs is the tag step (R13); a step that has not begun has received nothing, and every tag on the belt is that
of a step of the list that has begun (R11, R13, R94). -/
def State.tagsFit (s : State) : Bool :=
  s.plan.steps.all (fun st => !st.isRunning || s.plan.tag == some st.id)
    && s.plan.steps.all (fun st => !st.notBegun || st.delivered == 0)
    && s.onBeltAll.all (fun p => p.tag.all fun i => s.plan.steps.any fun st => st.id == i && !st.notBegun && st.state != .skipped)
/-- No lot waits in CLOSING with its closing conditions met (R114). -/
def State.closingsSettled (s : State) : Bool :=
  [1, 2, 3, 4, 5, 6, 7, 8].all fun n => !((s.lot? n).any fun r => r.state == .closing) || !s.closingHolds n
/-- The book is sound: every account is, each in-transit mass is the mass of the record's parcels on the belt (R110), the
open parcel carries the tag step and its lot (R92), the tag step is one that runs or runs out (R2) and a step that runs is
the tag step (R13), the lots of the parcels and of the live steps take bookings (R110), a step not begun has nothing on the
belt, and the numbers that lead bookings lie in their ranges. -/
abbrev State.bookSound (s : State) : Prop :=
  s.book.lots.length = 8 ∧ s.book.unassigned.sound ∧ (∀ r ∈ s.book.lots, r.account.sound)
    ∧ s.book.unassigned.inTransit = s.beltMass none
    ∧ (∀ n ∈ [1, 2, 3, 4, 5, 6, 7, 8], (s.lot? n).map (·.account.inTransit) = some (s.beltMass (some n)))
    ∧ (∀ p ∈ s.onBeltAll, (p.lot.all s.lotTakes) = true)
    ∧ (∀ st ∈ s.plan.steps, st.isLive = true → s.lotTakes st.lot = true)
    ∧ (∀ p ∈ s.weigh.openParcel.toList, p.tag = s.plan.tag ∧ p.lot = s.tagLot?)
    ∧ (s.plan.tag.all fun i =>
        s.plan.steps.any fun st => st.id == i && (st.isRunning || st.state == .cutoff)) = true
    ∧ (s.plan.steps.map (·.id)).Nodup ∧ (∀ st ∈ s.plan.steps, st.id < s.plan.idCounter ∧ lotOk st.lot = true)
    ∧ (∀ e ∈ s.cache.entries, (e.key?.all fun k => holdOk k.hold) = true)
    ∧ s.tagsFit = true ∧ quantumOk s.weigh.metrology.quantum = true ∧ spanOk s.weigh.metrology.span = true
/-- Every weighed total leaves room for one more increment below 4,000,000,000 kg (R107). -/
abbrev State.hasHeadroom (s : State) : Prop :=
  s.book.unassigned.weighed ≤ 3999999945 ∧ ∀ r ∈ s.book.lots, r.account.weighed ≤ 3999999945

end Sys2Proof.Machine
end

