-- ==== Sys2Proof/Certificates/Slice0/Obligations.lean ====
section
/-! DEFINITION. Certificates/Slice0/Obligations.lean: the statements for the provers. A request is "taken" under State.takes, and
"served" when its answer stands in its link's output queue ahead of the notices its taking raised. A frame is State.keeps
with the list of the parts that may change. A command of a request is that request's taking (log 3). -/

open Sys2Proof Sys2Proof.Machine

/-! ### The machine -/

/-- One step takes the command at the front of the queue and runs it with the queue's rest. -/
def Obligations.StepRunsFrontCommand : Prop :=
  ∀ (c : Instr) (rest : List Instr) (s : State), s.pending = c :: rest → step s = exec c (s.withPending rest)

/-- No command changes the command queue. Without the main supply a command other than POWER_ON and BKOK_DEASSERTED has no
effect, and no time passes (the model's choice, log 15); MAIN_SUPPLY_LOSS switches the supply off and keeps everything else,
and BKOK_DEASSERTED makes the bank not valid only while the supply is off (R111, R119). -/
def Obligations.QueueAndSupplyKept : Prop :=
  (∀ (c : Instr) (s t : State), exec c s = .next t → t.pending = s.pending)
    ∧ (∀ (c : Instr) (s : State), s.mainSupply = false → (∀ raw strap, c ≠ .powerOn raw strap) → c ≠ .bkokDeasserted →
      exec c s = .next s)
    ∧ (∀ s : State, s.mainSupply = false → s.pending = [] → step s = .next s)
    ∧ (∀ s : State, s.mainSupply = true →
      exec .mainSupplyLoss s = .next { s with mainSupply := false, bankHeld := true })
    ∧ (∀ s : State, s.mainSupply = true → exec .bkokDeasserted s = .next s)
    ∧ ∀ s : State, s.mainSupply = false → exec .bkokDeasserted s = .next { s with bankHeld := false }

/-- Every command completes in every state whose pins are sound: neither of the two faults that the model keeps for states no
run reaches (log 17) is met there. -/
def Obligations.CommandsComplete : Prop := ∀ (c : Instr) (s : State), s.pinsSound → ∃ t : State, exec c s = .next t

/-- One millisecond of an idle part in which nothing ends: the time base advances by 1, every level's age, every report age and
every silence counts up, every running timer counts down, the times older than 1,800 s leave the alarm histories, each line
due at the reading that ends is sampled, and nothing else changes (R15, R32, R49, R62, R68, R78, R123, R126, R128, R139,
R160; that an empty queue lets a millisecond pass: the model's choice, log 4; that a reading samples a line once at its end:
log 32). -/
def Obligations.TimePasses : Prop :=
  ∀ s : State, s.idles → s.linesRest → s.uneventful → step s = .next s.later

/-- A millisecond of an idle part that brings timers to their end: each expiry happens by itself as its rule states, and a
closure timer that starts at this reading has its whole 10 s (R15, R56, R59, R62, R71, R73, R74, R80, R128, R160; idle steps:
the model's choice, log 4; the order of several expiries: log 6). -/
def Obligations.TimersExpire : Prop :=
  ∀ s : State, s.idles → s.linesRest → s.noticesShaped → s.planSound → s.demandSound → s.feedSound →
    ∃ t : State, step s = .next t ∧ t.timeBase = s.timeBase + 1
      ∧ (∀ w : ConsentWindow, s.plan.window = some w → w.remaining ≤ 1 → w.number = 1 →
        t.plan.window = some ⟨w.step, 2, s.plan.windowLength * 1000⟩
          ∧ t.tells (.consentLapse w.step) ∧ t.tells (.consentAsk w.step))
      ∧ (∀ (w : ConsentWindow) (st : StepRecord), s.plan.window = some w → w.remaining ≤ 1 → w.number = 2 →
        s.step? w.step = some st →
        t.plan.window = none ∧ t.tells (.consentLapse w.step)
          ∧ t.step? w.step = some { st with state := .pending, lapseMark := true })
      ∧ (∀ (l : Loader) (n : Nat), (s.loader l).state = .travel → (s.loader l).travelTimer = some n → n ≤ 1 →
        (s.loader l).reportAge < 999 → (t.loader l).state = .fault ∧ (t.loader l).cause = some .travelTime)
      ∧ (∀ (l : Loader) (n : Nat), (s.loader l).state = .lowering ∨ (s.loader l).state = .raising →
        (s.loader l).spoutTimer = some n → n ≤ 1 → (s.loader l).reportAge < 999 →
        (t.loader l).state = .fault ∧ (t.loader l).cause = some .spoutTime)
      ∧ (∀ l : Loader, (s.loader l).lastReport ≠ none → 999 ≤ (s.loader l).reportAge →
        (s.loader l).state ≠ .unreported → (s.loader l).state ≠ .fault →
        (t.loader l).state = .fault ∧ (t.loader l).cause = some .driveLost)
      ∧ (∀ (h : Nat) (r : LevelRecord) (st : StepRecord), 1 ≤ h → h ≤ 12 → s.level? h = some r → r.age = 600 →
        999 ≤ r.subMs → s.feeding? = some st → st.hold = h → s.gate.agedMark ≠ some st.id →
        t.gate.agedMark = some st.id ∧ t.tells (.levelAged h))
      ∧ (∀ n : Nat, s.gate.state = .closing → s.gate.timer = some n → n ≤ 1 →
        t.gate.state = .fault ∧ t.gate.fault = true ∧ t.gate.timer = none)
      ∧ (s.gate.state = .opened → t.gate.state = .closing → t.gate.timer = some 10000)
      ∧ (∀ n : Nat, s.diverter.state = .moving → s.diverter.timer = some n → n ≤ 1 →
        t.diverter = ⟨.unknown, none, none, true, false, false, false⟩)
      ∧ (∀ (z : Zone) (n : Nat), (s.dust.get z).state = .purge → (s.dust.get z).timer = some n → n ≤ 1 →
        (t.dust.get z).state = (if s.warns z = true then .warn else .clear) ∧ (t.dust.get z).timer = none
          ∧ (t.dust.get z).latch = (s.dust.get z).latch)
      ∧ (∀ (k : Link) (n : Nat), (s.link k).up = true → (s.link k).silence = some n → 1999 ≤ n →
        (t.link k).up = false ∧ (t.link k).silence = none)
      ∧ s.keeps t ([.clock, .plan, .hatch, .loader .l1, .loader .l2, .gate, .diverter, .weigh, .book, .zone .z1, .zone .z2,
        .zone .z3, .lines, .port .l1, .port .l2] ++ wires)

/-! ### Invariants that every step keeps -/

/-- The state after reset meets every invariant stated below. Which reset a run begins with, and the lines and the strap
found at it, are the model's choice (log 1): retained clear with every line low and the strap open. -/
def Obligations.ResetIsSound : Prop :=
  State.reset.feedSound ∧ State.reset.dustSound ∧ State.reset.pinsSound ∧ State.reset.demandSound
    ∧ State.reset.withinCapacity ∧ State.reset.planSound ∧ State.reset.marked ∧ State.reset.bookSound
    ∧ State.reset.closingsSettled = true

/-- The gate and diverter records stay sound and the output lines follow them (R72, R73, R78, R79, R80). -/
def Obligations.FeedStaysSound : Prop := ∀ s t : State, s.feedSound → step s = .next t → t.feedSound

/-- The lines and the dust zones stay sound (R125 to R130, R140). -/
def Obligations.DustStaysSound : Prop := ∀ s t : State, s.dustSound → step s = .next t → t.dustSound

/-- The Window Cache holds no key twice, and the loaders' pins go with their travel states (R38, R42). -/
def Obligations.PinsStaySound : Prop := ∀ s t : State, s.pinsSound → step s = .next t → t.pinsSound

/-- The gate demand is at every step the one that its terms give, while the tables keep their sizes, which every step keeps too
(CapacitiesKept) (R69, R70). -/
def Obligations.DemandFollowsTerms : Prop :=
  ∀ s t : State, s.withinCapacity → s.demandSound → step s = .next t → t.demandSound

/-- Every collection stays within its capacity, every table keeps its size (twelve holds and levels, four keep-out zones,
sixteen lines, the notice records' sixteen places), no place stays reserved, a silence timer runs exactly while its link is
UP, the belt configuration stays in its ranges with D at most 480 × L, and every mass field of the book in
0..4,000,000,000 kg (R2, R34, R87, R95, R107, R138, R148, R150, R159). -/
def Obligations.CapacitiesKept : Prop := ∀ s t : State, s.withinCapacity → step s = .next t → t.withinCapacity

/-- The plan stays sound: at most one current step, its window its own, reasons only while SUSPENDED, ids distinct; and a
run-out waits for its mark only while the gate-closed condition does not hold (R2, R3, R4, R12, R24). -/
def Obligations.PlanStaysSound : Prop :=
  ∀ s t : State, s.planSound → s.marked → step s = .next t → t.planSound ∧ t.marked

/-- A lot in CLOSING is closed by the very step that meets its closing conditions, while the plan and the book are sound and
every weighed total has headroom (R114). -/
def Obligations.LotsCloseWhenDue : Prop :=
  ∀ s t : State, s.planSound → s.bookSound → s.hasHeadroom → s.closingsSettled = true → step s = .next t →
    t.closingsSettled = true

/-- Conservation: while the plan is sound and every weighed total has headroom, every account stays balanced, each in-transit
mass is the mass of the record's parcels on the belt, and a step that runs is the tag step (R13, R92, R109, R110). -/
def Obligations.BookStaysBalanced : Prop :=
  ∀ s t : State, s.planSound → s.bookSound → s.hasHeadroom → step s = .next t → t.bookSound

/-! ### Frames of the master links -/

/-- The body of a well-formed request read by the decoder gives the request back, with its tag and its link (the widths and
field orders where R154 and the describing rules leave them open are the model's choice, log 10; the two-byte seconds of
CONSENT_CONFIG and DUST_CONFIG and the enable flags of ZONE_SET and LINE_CONFIG are the model's choice, log 34). -/
def Obligations.RequestBodyRoundTrip : Prop :=
  ∀ (i : Instr) (k : Link) (tag : Byte) (code : Nat), i.wellFormed = true → requestCode i = some code →
    requestTag i = some tag → (requestLink i).all (fun j => j == k) = true →
    decodeRequest k tag code (encodeBody i) = some i

/-- A frame arriving on a link that is not in break. A frame whose check does not match is discarded. A valid frame brings
the link UP and restarts its silence timer; the first to do so after a reset sends the RESTART notice owed, ahead of all
else; a terminal link that comes UP removes LINK from the running step, whose state stays. Then a frame of another kind is
discarded, an unknown code is answered UNKNOWN, a body that is not well formed MALFORMED, a request its link's role may not
send DENIED, and any other joins the request queue or is answered FULL; a link refusal is placed while fewer than 8 places
are occupied. The frame of a well-formed request that the role may send is one of the last (R153, R155, R159 to R161, R169;
field orders: log 10; whether the frames of ZONE_SET, CONSENT_CONFIG, DUST_CONFIG and LINE_CONFIG are well formed: the
model's choice, log 34; the command carries the frame's line bytes: log 11). -/
def Obligations.RequestFrameArrives : Prop :=
  (∀ (k : Link) (kind tag code : Byte) (body : List Byte) (s : State), s.mainSupply = true → (s.link k).brk = .marking →
    body.length ≤ 240 →
    (∀ check : List Byte, check.length = 2 → check ≠ halfBytes (crc16 (frameCore kind tag code.toNat body)) →
      exec (.masterFrameReceived k (0x7E#8 :: (frameCore kind tag code.toNat body ++ check).flatMap stuffByte)) s =
        .next (s.withLink k { s.link k with receiver := .hunting }))
      ∧ ∀ (queue : List Instr) (refusal : Option AnswerCode), s.verdict k kind tag code body queue refusal →
        ∃ t : State, exec (.masterFrameReceived k (frameOnLine (frameCore kind tag code.toNat body))) s = .next t
          ∧ t.link k =
            { s.heardLink k with
              requests := queue
              output := (s.heardLink k).output ++
                (match refusal with
                | some c => if (s.heardLink k).output.length < 8 then [.refusal tag c code] else []
                | none => []) }
          ∧ ((s.link k).up = true ∨ k ≠ .terminal → s.keeps t [.link k])
          ∧ (∀ st ∈ s.plan.steps, s.planSound → k = .terminal → (s.link .terminal).up = false →
            t.step? st.id = some
              (if st.isRunning = true then { st with suspension := { st.suspension with link := false } } else st))
          ∧ s.keeps t [.link k, .plan])
    ∧ ∀ (i : Instr) (k : Link) (tag : Byte) (code : Nat) (s : State), s.mainSupply = true → (s.link k).brk = .marking →
      i.wellFormed = true → requestCode i = some code → requestTag i = some tag →
      (requestLink i).all (fun j => j == k) = true → entitled k code = true →
      ∃ t : State, exec (.masterFrameReceived k (requestOnLine tag code (encodeBody i))) s = .next t
        ∧ (t.link k).up = true ∧ (t.link k).silence = some 0 ∧ (t.link k).receiver = .hunting
        ∧ ((s.link k).requests.length < 4 → (t.link k).requests = (s.link k).requests ++ [i])
        ∧ (4 ≤ (s.link k).requests.length → (t.link k).requests = (s.link k).requests
            ∧ ((s.link k).output.length < 7 →
              .refusal tag .full (BitVec.ofNat 8 code) ∈ (t.link k).output))

/-- The line and the state of a link. The causes that abandon a partial frame return the receiver to HUNTING, and a marker
begins a new frame whatever was being collected; a frame sent leaves the head of the output queue. A break discards the
requests and the partial frame and returns the notice record to no pending class and the default routes, while the link
state, the output queue and everything else stand; a break in progress does not begin again, and its end returns the line to
MARKING. The silence of an UP link takes it DOWN, stops its timer and raises LINK_LOST; that of the terminal link also
suspends a FEEDING step with LINK (R151, R153, R159 to R162, R170; the expiry row acts whenever the timer runs: the model's
choice, log 5). -/
def Obligations.LinkEventsActed : Prop :=
  ∀ (k : Link) (s : State), s.mainSupply = true →
    exec (.framingError k) s = .next (s.withLink k { s.link k with receiver := .hunting })
      ∧ exec (.frameGapTimeout k) s = .next (s.withLink k { s.link k with receiver := .hunting })
      ∧ exec (.partialFrameAbandoned k) s = .next (s.withLink k { s.link k with receiver := .hunting })
      ∧ ((s.link k).brk = .marking →
        exec (.markerReceived k) s = .next (s.withLink k { s.link k with receiver := .collecting [0x7E#8] false }))
      ∧ (∀ (f : OutFrame) (rest : List OutFrame), (s.link k).output = f :: rest →
        exec (.frameSent k) s = .next (s.withLink k { s.link k with output := rest }))
      ∧ ((s.link k).brk = .marking →
        exec (.linkBreak k) s = .next
          ((s.withLink k { s.link k with receiver := .hunting, requests := [], brk := .broken }).withNotice k
            ⟨List.replicate 16 none, routesOf (defaultCodes k)⟩))
      ∧ ((s.link k).brk = .broken → exec (.linkBreak k) s = .next s)
      ∧ exec (.breakEnd k) s = .next (s.withLink k { s.link k with brk := .marking })
      ∧ ((s.link k).up = true → s.noticesShaped →
        ∃ t : State, exec (.silenceTimerExpiry k) s = .next t ∧ (t.link k).up = false ∧ (t.link k).silence = none
          ∧ (t.link k).requests = (s.link k).requests ∧ t.tells (.linkLost k)
          ∧ (k ≠ .terminal → s.keeps t wires)
          ∧ s.keepsNotifying t [.plan, .gate, .weigh, .book]
          ∧ ∀ st : StepRecord, st ∈ s.plan.steps → st.isRunning = true → s.planSound → k = .terminal →
            t.step? st.id = some { st with state := .suspended, suspension := { st.suspension with link := true } })

/-- The request queue, for every request. A request behind others, or without room for its answer, joins the tail of its
link's request queue; with four there it is answered FULL with its code, and lost without answer when all 8 places are
occupied; at the head of the queue without room for its answer it waits, and with room it is taken and leaves the queue;
taken as the only request waiting, it does what it does when it is taken at once, as is written out for STATUS. An idle part
takes the request at the head of the first link, terminal before vessel before survey, that has one and room for its answer
(R155, R157, R159; the form of the command: the model's choice, log 3; the order of the links: log 4; STATUS does not count
its own place: log 29). -/
def Obligations.RequestsQueue : Prop :=
  (∀ (i : Instr) (k : Link) (tag : Byte) (code : Nat) (s : State), s.mainSupply = true → requestOn i = some k →
    requestTag i = some tag → requestCode i = some code →
    ((s.link k).requests = [] → s.hasRoom k = false →
      exec i s = .next (s.withLink k { s.link k with requests := [i] }))
      ∧ ∀ (head : Instr) (rest : List Instr), (s.link k).requests = head :: rest →
        (head ≠ i → (s.link k).requests.length < 4 →
          exec i s = .next (s.withLink k { s.link k with requests := (s.link k).requests ++ [i] }))
          ∧ (head ≠ i → 4 ≤ (s.link k).requests.length →
            exec i s = .next
              (if (s.link k).output.length < 8 then s.placeFrame k (.refusal tag .full (BitVec.ofNat 8 code)) else s))
          ∧ (head = i → s.hasRoom k = false → exec i s = .next s))
    ∧ (∀ (k : Link) (tag : Byte) (n : Nat) (p : StatusPart) (s : State) (rest : List Instr), s.mainSupply = true →
      (s.link k).requests = .status k tag n :: rest → s.hasRoom k = true → statusPartOf n = some p →
      (s.link k).output.all (fun f => !f.isReserved) = true →
      exec (.status k tag n) s = .next
        ((s.withLink k { s.link k with requests := rest }).answered k tag .done
          (.status ((s.withLink k { s.link k with requests := rest }).statusView k p))))
    ∧ (∀ (i : Instr) (k : Link) (rest : List Instr) (s : State), s.mainSupply = true → requestOn i = some k →
      (s.link k).requests = i :: rest → s.hasRoom k = true →
      (∀ t : State, exec i s = .next t → (t.link k).requests = rest)
        ∧ (rest = [] → exec i s = exec i (s.withLink k { s.link k with requests := [] })))
    ∧ ∀ s : State, s.mainSupply = true → s.pending = [] →
      (∀ (i : Instr) (rest : List Instr), (s.link .terminal).requests = i :: rest → s.hasRoom .terminal = true →
        step s = exec i s)
        ∧ ((s.link .terminal).requests = [] ∨ s.hasRoom .terminal = false →
          (∀ (i : Instr) (rest : List Instr), (s.link .vessel).requests = i :: rest → s.hasRoom .vessel = true →
            step s = exec i s)
            ∧ ((s.link .vessel).requests = [] ∨ s.hasRoom .vessel = false →
              ∀ (i : Instr) (rest : List Instr), (s.link .survey).requests = i :: rest → s.hasRoom .survey = true →
                step s = exec i s))

/-- The reading requests change nothing but their link's output queue, and carry the part's state as it stands in the views that
their rules list; a list position outside 1..64, a loader other than 1 and 2, a section outside the seven, a record outside
0..8 and a part outside the three are RANGE (R26, R67, R105, R117, R163; that STATUS does not count the place reserved for its
own answer: log 29; that it gives the age of a history time cut to whole seconds: the model's choice, log 33; that the
quantities last evaluated are stored: log 21). -/
def Obligations.ReadsAnswer : Prop :=
  ∀ (k : Link) (tag : Byte) (s : State), s.takes k →
    (∀ n : Nat, 1 ≤ n → n ≤ 64 → exec (.planRead k tag n) s = .next (s.answered k tag .done
        (.plan s.planSummary ((s.plan.steps.drop (n - 1)).take 4))))
      ∧ (∀ (n : Nat) (l : Loader), loaderOf n = some l → exec (.loaderRead k tag n) s = .next (s.answered k tag .done
        (.loader (s.loaderView l))))
      ∧ exec (.queueRead k tag) s = .next (s.answered k tag .done (.queue s.queueView))
      ∧ (∀ (n : Nat) (p : StatusPart), statusPartOf n = some p → exec (.status k tag n) s = .next (s.answered k tag .done
        (.status (s.statusView k p))))
      ∧ (∀ (n : Nat) (r : LotRecord) (p : Nat) (q : BookPart), 1 ≤ n → s.lot? n = some r → bookPartOf p = some q →
        exec (.bookRead k tag n p) s = .next (s.answered k tag .done (r.part q)))
      ∧ exec (.bookRead k tag 0 0) s = .next (s.answered k tag .done (.bookSummary s.book.unassigned.summary))
      ∧ exec (.bookRead k tag 0 1) s = .next (s.answered k tag .done
        (.bookHolds s.book.unassigned.delivered s.book.unassigned.offPlan))
      ∧ exec (.bookRead k tag 0 2) s = .next (s.answered k tag .range .empty)
      ∧ (∀ n : Nat, n = 0 ∨ 64 < n → exec (.planRead k tag n) s = .next (s.answered k tag .range .empty))
      ∧ (∀ n : Nat, n ≠ 1 → n ≠ 2 → exec (.loaderRead k tag n) s = .next (s.answered k tag .range .empty))
      ∧ (∀ n : Nat, 6 < n → exec (.status k tag n) s = .next (s.answered k tag .range .empty))
      ∧ ∀ n p : Nat, s.book.lots.length = 8 → 8 < n ∨ 2 < p →
        exec (.bookRead k tag n p) s = .next (s.answered k tag .range .empty)

/-! ### Events and notices -/

/-- An event is taken for every notice record: a class not pending joins the pending set with count 1, a class already
pending counts one more up to 255, and the last detail is the event's in both cases; the other classes and the routes
stand. A notice is placed exactly when the class was not pending, is routed, the link is UP and its queue has room.
FETCH_EVENTS answers the pending classes in code order and empties them; ROUTE_SET replaces the route set and answers the
one that stood; both act on the record of their own link alone, and change nothing else (R165 to R168). -/
def Obligations.NoticesKept : Prop :=
  (∀ (e : Event) (k : Link) (s : State), s.noticesShaped →
      ((s.raise e).notice k).routes = (s.notice k).routes
        ∧ (∀ c : Nat, c ≠ e.code → ((s.raise e).notice k).entry? c = (s.notice k).entry? c)
        ∧ (∀ p : PendingEntry, (s.notice k).entry? e.code = some p →
          ((s.raise e).notice k).entry? e.code = some ⟨e, min 255 (p.count + 1)⟩ ∧ (s.raise e).link k = s.link k)
        ∧ ((s.notice k).entry? e.code = none →
          ((s.raise e).notice k).entry? e.code = some ⟨e, 1⟩
            ∧ (s.raise e).link k =
              (if (s.notice k).routed e.code = true ∧ (s.link k).up = true ∧ s.hasRoom k = true then
                { s.link k with output := (s.link k).output ++ [.notice e] }
              else s.link k))
        ∧ s.keeps (s.raise e) wires)
    ∧ ∀ (k : Link) (tag : Byte) (s : State), s.takes k →
        exec (.fetchEvents k tag) s = .next
            ((s.withNotice k { s.notice k with pending := List.replicate 16 none }).answered k tag .done
              (.events ((s.notice k).pending.filterMap id)))
          ∧ (∀ cs : List Nat, (∀ c ∈ cs, c ≤ 15) → cs.Nodup →
            exec (.routeSet k tag cs) s = .next
              ((s.withNotice k { s.notice k with routes := (List.range 16).map fun c => cs.contains c }).answered k tag .done
                (.routes (s.notice k).routes)))
          ∧ ∀ cs : List Nat, (∃ c ∈ cs, 15 < c) ∨ ¬ cs.Nodup →
            exec (.routeSet k tag cs) s = .next (s.answered k tag .range .empty)

/-! ### Hatch Map and Window Cache -/

/-- FLUSH makes every VALID entry INVALID, answers their number, and changes nothing else. -/
def Obligations.FlushDiscardsValid : Prop :=
  ∀ (tag : Byte) (s : State), s.takes .terminal →
    ∃ es : List CacheEntry, exec (.flush tag) s = .next
        ((s.withCache ⟨es, s.cache.pointer⟩).answered .terminal tag .done
          (.count (s.cache.entries.countP fun e => e.isValid)))
      ∧ es.length = s.cache.entries.length
      ∧ ∀ (i : Nat) (e : CacheEntry), s.cache.entries[i]? = some e →
        es[i]? = some (if e.isValid then .invalid else e)

/-- MOORING in range sets the mooring record, and HATCH_DEFINE in range replaces its hold's descriptor as a whole; MOORING
concerns every entry of the Window Cache and HATCH_DEFINE those whose key names the hold: a VALID one becomes INVALID, a
PINNED one PINNED_STALE. The answer carries the two counts. STALE_WINDOW is raised for each pinned entry concerned, so it
stands with a loader's detail when that loader alone is concerned, is pending when any is, and is not raised when none is.
Levels and other holds stand, and nothing else changes but the notices. Each is refused with RANGE when a value lies outside its
range (R28, R29, R33, R44, R45). -/
def Obligations.MapChangesInvalidate : Prop :=
  (∀ (tag : Byte) (s : State),
    (s.takes .terminal → ∀ x f n : Nat, 250000 < x ∨ 5000 < f ∨ 1 < n →
      exec (.mooring tag x f n) s = .next (s.answered .terminal tag .range .empty))
      ∧ (s.takes .vessel → ∀ (h aft fore inner outer : Nat) (ps : List PourPoint),
        (h = 0 ∨ 12 < h ∨ ps = [] ∨ 8 < ps.length ∨ 300000 < aft ∨ 300000 < fore ∨ fore < aft + 2000 ∨ 40000 < inner
          ∨ 40000 < outer ∨ outer < inner + 2000
          ∨ ∃ p ∈ ps, p.along < 10 ∨ 90 < p.along ∨ p.athwart < 10 ∨ 90 < p.athwart) →
        exec (.hatchDefine tag h aft fore inner outer ps) s = .next (s.answered .vessel tag .range .empty)))
    ∧ ∀ (i : Instr) (k : Link) (tag : Byte) (hatch : Hatch) (concerned : CacheEntry → Bool) (s : State), s.takes k →
      s.noticesShaped → s.hatch.holds.length = 12 →
      (k = .terminal ∧ (∃ (x f n : Nat) (o : Orientation), i = .mooring tag x f n ∧ x ≤ 250000 ∧ f ≤ 5000
            ∧ orientationOf n = some o ∧ hatch = { s.hatch with mooring := some ⟨x, f, o⟩ })
          ∧ (∀ e : CacheEntry, concerned e = true)
        ∨ k = .vessel ∧ ∃ (h : Nat) (d : HoldDescriptor), i = .hatchDefine tag h d.aft d.fore d.inner d.outer d.points
          ∧ 1 ≤ h ∧ h ≤ 12 ∧ 1 ≤ d.points.length ∧ d.points.length ≤ 8 ∧ d.fore ≤ 300000 ∧ d.aft + 2000 ≤ d.fore
          ∧ d.outer ≤ 40000 ∧ d.inner + 2000 ≤ d.outer
          ∧ (∀ p ∈ d.points, 10 ≤ p.along ∧ p.along ≤ 90 ∧ 10 ≤ p.athwart ∧ p.athwart ≤ 90)
          ∧ hatch = { s.hatch with holds := s.hatch.holds.set (h - 1) (some d) }
          ∧ ∀ e : CacheEntry, concerned e = (e.key?.any fun q => q.hold == h)) →
      ∃ t : State, exec i s = .next t ∧ t.hatch = hatch ∧ t.cache.pointer = s.cache.pointer
        ∧ t.cache.entries = s.cache.entries.map (fun e => invalidatedAs (concerned e) e)
        ∧ s.served t k tag .done
          (.counts (s.cache.entries.countP fun e => e.isValid && concerned e)
            (s.cache.entries.countP fun e => e.pinner?.isSome && concerned e))
        ∧ (∀ l : Loader, (∃ e ∈ s.cache.entries, concerned e = true ∧ e.pinner? = some l) →
          (∃ m : Loader, ∀ j : Link, ((t.notice j).entry? 7).map (·.last) = some (.staleWindow m))
            ∧ ((∀ e ∈ s.cache.entries, concerned e = true → e.pinner? ≠ some (otherLoader l)) → t.tells (.staleWindow l)))
        ∧ ((∀ e ∈ s.cache.entries, concerned e = true → e.pinner? = none) → s.keeps t [.hatch, .cache, .link k])
        ∧ s.keepsNotifying t [.hatch, .cache]

/-- HATCH_DELETE: outside 1..12 RANGE; of an absent hold NO_HOLD; of a hold with a pinned entry STATE, changing nothing;
otherwise the hold becomes absent, its VALID entries become INVALID and the second count is 0 (R30, R44). -/
def Obligations.HatchDeleted : Prop :=
  ∀ (tag : Byte) (h : Nat) (s : State), s.takes .vessel → s.hatch.holds.length = 12 →
    (h = 0 ∨ 12 < h → exec (.hatchDelete tag h) s = .next (s.answered .vessel tag .range .empty))
      ∧ (1 ≤ h → h ≤ 12 → s.descriptor? h = none →
        exec (.hatchDelete tag h) s = .next (s.answered .vessel tag .noHold .empty))
      ∧ (∀ d : HoldDescriptor, 1 ≤ h → h ≤ 12 → s.descriptor? h = some d →
        (∃ e ∈ s.cache.entries, ∃ (k : Key) (l : Loader), e.key? = some k ∧ e.pinner? = some l ∧ k.hold = h) →
        exec (.hatchDelete tag h) s = .next (s.answered .vessel tag .state .empty))
      ∧ ∀ d : HoldDescriptor, 1 ≤ h → h ≤ 12 → s.descriptor? h = some d →
        (∀ e ∈ s.cache.entries, ∀ (k : Key) (l : Loader), e.key? = some k → e.pinner? = some l → k.hold ≠ h) →
        ∃ t : State, exec (.hatchDelete tag h) s = .next t
          ∧ t.descriptor? h = none ∧ (∀ j : Nat, j ≠ h → t.descriptor? j = s.descriptor? j)
          ∧ t.hatch.levels = s.hatch.levels ∧ t.cache.pointer = s.cache.pointer
          ∧ t.cache.entries = s.cache.entries.map (fun e =>
            invalidatedAs (e.key?.any fun k => k.hold == h) e)
          ∧ s.served t .vessel tag .done
            (.counts (s.cache.entries.countP fun e => e.isValid && e.key?.any fun k => k.hold == h) 0)
          ∧ s.keeps t [.hatch, .cache, .link .vessel]

/-- LEVEL in range sets the hold's level and restarts its age, whether the hold is present or absent; each loader LOWERING
or LOWERED at a pinned entry of the hold takes the tip limit level less 2,000 mm with a LOWER order, and the others stand. A
hold outside 1..12 or a level outside −5,000..20,000 mm is RANGE (R31, R61). -/
def Obligations.LevelRenews : Prop :=
  (∀ (tag : Byte) (h : Nat) (v : Int) (s : State), s.takes .vessel → h = 0 ∨ 12 < h ∨ v < -5000 ∨ 20000 < v →
    exec (.level tag h v) s = .next (s.answered .vessel tag .range .empty))
    ∧ ∀ (tag : Byte) (h : Nat) (v : Int) (s : State), s.takes .vessel → s.hatch.levels.length = 12 → s.marked →
      1 ≤ h → h ≤ 12 → -5000 ≤ v → v ≤ 20000 →
      ∃ t : State, exec (.level tag h v) s = .next t
        ∧ t.level? h = some ⟨v, 0, 0⟩ ∧ (∀ j : Nat, j ≠ h → t.level? j = s.level? j) ∧ t.hatch.holds = s.hatch.holds
        ∧ (∀ l : Loader, ((s.loader l).state = .lowering ∨ (s.loader l).state = .lowered) →
            (s.pinKey? l).any (fun k => k.hold == h) = true →
            t.loader l = { s.loader l with tipLimit := some (v - 2000) }
              ∧ t.port l = portAfter (s.port l) (.lower (v - 2000)))
        ∧ (∀ l : Loader, ((s.loader l).state ≠ .lowering ∧ (s.loader l).state ≠ .lowered
            ∨ (s.pinKey? l).any (fun k => k.hold == h) = false) → t.loader l = s.loader l ∧ t.port l = s.port l)
        ∧ s.served t .vessel tag .done .empty
        ∧ t.gate.demand = t.demandNow
        ∧ s.keeps t [.hatch, .gate, .loader .l1, .loader .l2, .port .l1, .port .l2, .link .vessel]

/-- PROBE on the terminal or the vessel link. A hold or pour point out of range is RANGE, without a lookup. Otherwise the
replacement pointer advances, and: a pinned key is OCCUPIED; a VALID key is a HIT; a key held by no entry is translated, and a
failed translation is answered with its code, REACH with the computed X and Y; a found position is loaded as VALID into the
lowest INVALID entry or, with none, into the first VALID entry from the advanced pointer on; a hit or a loaded position in
an enabled keep-out zone is answered ZONE with the zone's index, and DONE otherwise. On the survey link PROBE is DENIED
(R35, R37, R39, R40, R48, R156; a command of the survey link: log 31). -/
def Obligations.ProbeAnswers : Prop :=
  ∀ (k : Link) (tag : Byte) (h p : Nat) (s : State),
    (k ≠ .survey → s.takes k → h = 0 ∨ 12 < h ∨ 7 < p →
      exec (.probe k tag h p) s = .next (s.answered k tag .range .empty))
      ∧ (k ≠ .survey → s.takes k → 1 ≤ h → h ≤ 12 → p ≤ 7 → s.cache.pointer ≤ 7 → s.cache.entries.length = 8 →
        (∀ (i : Nat) (e : CacheEntry) (l : Loader), s.cache.holding? ⟨h, p⟩ = some (i, e) → e.pinner? = some l →
          exec (.probe k tag h p) s = .next
            ((s.withCache { s.cache with pointer := nextPointer s.cache.pointer }).answered k tag .occupied
              (.probe ⟨.occupied, none, none, none, some i, some l⟩)))
        ∧ (∀ (i : Nat) (q : Position), s.cache.holding? ⟨h, p⟩ = some (i, .valid ⟨h, p⟩ q) →
          exec (.probe k tag h p) s = .next
            (match s.zoneAt? q with
            | none =>
              (s.withCache { s.cache with pointer := nextPointer s.cache.pointer }).answered k tag .done
                (.probe ⟨.done, some (q.x, q.y), some true, none, some i, none⟩)
            | some z =>
              (s.withCache { s.cache with pointer := nextPointer s.cache.pointer }).answered k tag .zone
                (.probe ⟨.zone, some (q.x, q.y), some true, some z, some i, none⟩)))
        ∧ (s.cache.holding? ⟨h, p⟩ = none →
          (∀ c : AnswerCode, s.translate ⟨h, p⟩ = .failed c →
            exec (.probe k tag h p) s = .next
              ((s.withCache { s.cache with pointer := nextPointer s.cache.pointer }).answered k tag c
                (.probe ⟨c, none, none, none, none, none⟩)))
            ∧ (∀ x y : Int, s.translate ⟨h, p⟩ = .outOfReach x y →
              exec (.probe k tag h p) s = .next
                ((s.withCache { s.cache with pointer := nextPointer s.cache.pointer }).answered k tag .reach
                  (.probe ⟨.reach, some (x, y), none, none, none, none⟩)))
            ∧ ∀ (q : Position) (i : Nat), s.translate ⟨h, p⟩ = .found q →
              (s.cache.entries.findIdx? CacheEntry.isInvalid = some i
                ∨ (∀ e ∈ s.cache.entries, e ≠ .invalid) ∧ ∃ d : Nat, d < 8 ∧ i = (nextPointer s.cache.pointer + d) % 8
                  ∧ (s.cache.entries[i]?.any fun e => e.isValid) = true
                  ∧ ∀ c : Nat, c < d →
                    (s.cache.entries[(nextPointer s.cache.pointer + c) % 8]?.any fun e => e.isValid) = false) →
              exec (.probe k tag h p) s = .next
                (match s.zoneAt? q with
                | none =>
                  (s.withCache ⟨s.cache.entries.set i (.valid ⟨h, p⟩ q), nextPointer s.cache.pointer⟩).answered k tag
                    .done (.probe ⟨.done, some (q.x, q.y), some false, none, some i, none⟩)
                | some z =>
                  (s.withCache ⟨s.cache.entries.set i (.valid ⟨h, p⟩ q), nextPointer s.cache.pointer⟩).answered k tag
                    .zone (.probe ⟨.zone, some (q.x, q.y), some false, some z, some i, none⟩))))
      ∧ (k = .survey → s.mainSupply = true → (s.link k).output.length < 8 →
        exec (.probe k tag h p) s = .next (s.placeFrame k (.refusal tag .denied 43)))

/-- Translation: the along-ship distance is the after edge and the floor of the percentage of the opening, X is the stern
mark plus or less it by the orientation, Y is the fender offset, the inner limit and the floor of the athwart part; the
failures come in the order NO_MOORING, NO_HOLD, NO_POINT, REACH (R36, R37). -/
def Obligations.TranslationComputes : Prop :=
  ∀ (h p : Nat) (s : State),
    (s.hatch.mooring = none → s.translate ⟨h, p⟩ = .failed .noMooring)
      ∧ (∀ m : Mooring, s.hatch.mooring = some m → s.descriptor? h = none → s.translate ⟨h, p⟩ = .failed .noHold)
      ∧ (∀ (m : Mooring) (d : HoldDescriptor), s.hatch.mooring = some m → s.descriptor? h = some d → d.points.length ≤ p →
        s.translate ⟨h, p⟩ = .failed .noPoint)
      ∧ ∀ (m : Mooring) (d : HoldDescriptor) (q : PourPoint) (x y : Int), s.hatch.mooring = some m →
        s.descriptor? h = some d → d.points[p]? = some q → d.aft ≤ d.fore → d.inner ≤ d.outer →
        x = (if m.orientation = .bowUpstream then
            (m.sternX : Int) + (d.aft + ((d.fore : Int) - d.aft) * q.along / 100)
          else (m.sternX : Int) - (d.aft + ((d.fore : Int) - d.aft) * q.along / 100)) →
        y = (m.fender : Int) + d.inner + ((d.outer : Int) - d.inner) * q.athwart / 100 →
        (0 ≤ x ∧ x ≤ 250000 ∧ 3000 ≤ y ∧ y ≤ 26000 → s.translate ⟨h, p⟩ = .found ⟨x.toNat, y.toNat⟩)
          ∧ (¬ (0 ≤ x ∧ x ≤ 250000 ∧ 3000 ≤ y ∧ y ≤ 26000) → s.translate ⟨h, p⟩ = .outOfReach x y)

/-! ### Loader Travel -/

/-- MOVE. A number out of range is RANGE; a loader that is not IDLE or ALIGNED, or an asserted emergency stop, is STATE; a dust
STOP of the loader's zone is DUST; a lookup that fails gives its own code; a travel claim too near the other loader's is
HELD: each leaves all but the lookup's effects on the cache as it was. When the checks pass, the loader's old pin is released
and then the lookup's entry is pinned for it, the target and the travel claim are set, the GO order is issued, the travel timer
starts at 240 s, and the answer carries the target and the entry. A running step that loses its
loader's pin is SUSPENDED with LOADER. The diverter, the map, the dust zones, the lines and the
other loader stand. The lookup of a loader: a key in a VALID entry or in its own PINNED one is a hit with the position held
there; in its own PINNED_STALE one it is translated again and no entry is loaded; in an entry pinned by the other loader it is
OCCUPIED; held by no entry it is the lookup that PROBE makes (R19, R35, R39, R40, R42, R54, R66). -/
def Obligations.MoveSends : Prop :=
  (∀ (l : Loader) (key : Key) (s : State),
    (∀ (i : Nat) (q : Position),
      s.cache.holding? key = some (i, .valid key q) ∨ s.cache.holding? key = some (i, .pinned key q l) →
      s.lookup (some l) key = ⟨s.pointerMoved, s.foundRecord true i q, none⟩)
      ∧ (∀ (i : Nat) (q : Position), s.cache.holding? key = some (i, .stale key q l) →
        (∀ c : AnswerCode, s.translate key = .failed c →
          s.lookup (some l) key = ⟨s.pointerMoved, ⟨c, none, none, none, none, none⟩, none⟩)
          ∧ (∀ x y : Int, s.translate key = .outOfReach x y →
            s.lookup (some l) key = ⟨s.pointerMoved, ⟨.reach, some (x, y), none, none, none, none⟩, none⟩)
          ∧ ∀ p : Position, s.translate key = .found p →
            s.lookup (some l) key = ⟨s.pointerMoved, s.foundRecord false i p, none⟩)
      ∧ (∀ (i : Nat) (e : CacheEntry), s.cache.holding? key = some (i, e) → e.pinner? = some (otherLoader l) →
        s.lookup (some l) key =
          ⟨s.pointerMoved, ⟨.occupied, none, none, none, some i, some (otherLoader l)⟩, none⟩)
      ∧ (s.cache.holding? key = none → s.lookup (some l) key = s.lookup none key))
    ∧ ∀ (tag : Byte) (n h p : Nat) (s : State), s.takes .terminal →
      (loaderOf n = none ∨ h = 0 ∨ 12 < h ∨ 7 < p →
        exec (.move tag n h p) s = .next (s.answered .terminal tag .range .empty))
        ∧ ∀ l : Loader, loaderOf n = some l → 1 ≤ h → h ≤ 12 → p ≤ 7 →
          ((s.loader l).state ≠ .idle ∧ (s.loader l).state ≠ .aligned ∨ s.estop = true →
            exec (.move tag n h p) s = .next (s.answered .terminal tag .state .empty))
            ∧ ((s.loader l).state = .idle ∨ (s.loader l).state = .aligned → s.estop = false →
              (s.restriction (loaderZone l) = .stop →
                exec (.move tag n h p) s = .next (s.answered .terminal tag .dust .empty))
                ∧ (s.restriction (loaderZone l) ≠ .stop → (s.lookup (some l) ⟨h, p⟩).stop = none →
                  (∀ c : AnswerCode, (s.lookup (some l) ⟨h, p⟩).record.outcome = c → c ≠ .done →
                    ∃ t : State, exec (.move tag n h p) s = .next t ∧ t.cache = (s.lookup (some l) ⟨h, p⟩).state.cache
                      ∧ s.served t .terminal tag c .empty ∧ s.keeps t [.cache, .link .terminal])
                    ∧ ∀ (x y i : Nat) (hit : Option Bool) (rep : Report), (s.loader l).lastReport = some rep →
                      (s.lookup (some l) ⟨h, p⟩).record = ⟨.done, some ((x : Int), (y : Int)), hit, none, some i, none⟩ →
                      (¬ s.claimFits l ⟨((min rep.x x : Nat) : Int) - 3000, ((max rep.x x : Nat) : Int) + 3000⟩ →
                        ∃ t : State, exec (.move tag n h p) s = .next t
                          ∧ t.cache = (s.lookup (some l) ⟨h, p⟩).state.cache
                          ∧ s.served t .terminal tag .held .empty ∧ s.keeps t [.cache, .link .terminal])
                        ∧ (s.claimFits l ⟨((min rep.x x : Nat) : Int) - 3000, ((max rep.x x : Nat) : Int) + 3000⟩ →
                          ∃ t : State, exec (.move tag n h p) s = .next t
                            ∧ t.loader l =
                              { s.loader l with
                                state := .travel
                                claim := some ⟨((min rep.x x : Nat) : Int) - 3000, ((max rep.x x : Nat) : Int) + 3000⟩
                                target := some ⟨x, y⟩
                                alignCount := 0
                                travelTimer := some 240000 }
                            ∧ t.port l = portAfter (s.port l) (.go x y)
                            ∧ t.cache.entries[i]? = some (.pinned ⟨h, p⟩ ⟨x, y⟩ l)
                            ∧ t.cache =
                              ⟨((s.lookup (some l) ⟨h, p⟩).state.cache.entries.map (releasedAs l)).set i
                                  (.pinned ⟨h, p⟩ ⟨x, y⟩ l), (s.lookup (some l) ⟨h, p⟩).state.cache.pointer⟩
                            ∧ s.served t .terminal tag .done (.moved ⟨x, y⟩ i)
                          ∧ (∀ st ∈ s.plan.steps, s.planSound → st.isRunning = true → st.loader = l →
                            s.pinKey? l = some ⟨st.hold, st.point⟩ → (⟨h, p⟩ : Key) ≠ ⟨st.hold, st.point⟩ → s.pinsSound →
                            t.step? st.id = some st.unloaded)
                            ∧ s.keepsNotifying t [.cache, .loader l, .port l, .plan, .gate, .weigh, .book]
                            ∧ (s.still → s.keeps t [.cache, .loader l, .port l, .link .terminal]))))

/-- LOWER and RAISE whose checks pass: the order is issued, the spout timer starts at 60 s, and the loader is LOWERING or,
when its spout-down condition already holds, LOWERED; RAISING or, when its spout-up condition already holds, ALIGNED. Claim,
pin, target and cache stand. A RAISE of the LOWERED loader of the running step SUSPENDS it with LOADER, a LOWER that makes it
LOWERED at its pin with the diverter there removes LOADER and leaves the step's state, and every other running step stands; the
gate demand is formed anew. In another travel state, or with the emergency stop asserted, each is refused with STATE; LOWER
without a pinned entry whose hold has a level is NO_LEVEL, and RAISE under a dust STOP is DUST; a loader other than 1 and 2
is RANGE (R19, R58, R59, R60, R66). -/
def Obligations.SpoutMoves : Prop :=
  (∀ (tag : Byte) (n : Nat) (s : State), s.takes .terminal → n ≠ 1 → n ≠ 2 →
    exec (.lower tag n) s = .next (s.answered .terminal tag .range .empty)
      ∧ exec (.raise tag n) s = .next (s.answered .terminal tag .range .empty))
    ∧ ∀ (tag : Byte) (n : Nat) (l : Loader) (s : State), s.takes .terminal → loaderOf n = some l →
      ((s.loader l).state ≠ .aligned ∨ s.estop = true →
        exec (.lower tag n) s = .next (s.answered .terminal tag .state .empty))
        ∧ ((s.loader l).state ≠ .lowered ∧ (s.loader l).state ≠ .lowering ∨ s.estop = true →
          exec (.raise tag n) s = .next (s.answered .terminal tag .state .empty))
        ∧ ((s.loader l).state = .aligned → s.estop = false → (∀ k : Key, s.pinKey? l = some k → s.level? k.hold = none) →
          exec (.lower tag n) s = .next (s.answered .terminal tag .noLevel .empty))
        ∧ (∀ (k : Key) (r : LevelRecord), s.estop = false → (s.loader l).state = .aligned → s.pinKey? l = some k →
          s.level? k.hold = some r →
          ∃ t : State, exec (.lower tag n) s = .next t
            ∧ t.loader l =
              { s.loader l with
                state := if s.spoutDown l then .lowered else .lowering
                tipLimit := some (r.height - 2000)
                spoutTimer := if s.spoutDown l then none else some 60000 }
            ∧ t.port l = portAfter (s.port l) (.lower (r.height - 2000))
            ∧ (∀ st ∈ s.plan.steps, s.planSound → st.isRunning = true →
              t.step? st.id = some
                (if st.loader = l ∧ s.spoutDown l = true ∧ k = ⟨st.hold, st.point⟩ ∧ s.diverter.state = atLoader l then
                  st.reloaded
                else st))
            ∧ t.gate.demand = t.demandNow
            ∧ s.served t .terminal tag .done (.tipLimit (r.height - 2000))
            ∧ s.keepsNotifying t [.loader l, .port l, .plan, .gate, .weigh, .book]
            ∧ (s.still → s.keeps t [.loader l, .port l, .link .terminal]))
        ∧ (s.estop = false → ((s.loader l).state = .lowered ∨ (s.loader l).state = .lowering) →
          s.restriction (loaderZone l) ≠ .stop →
          ∃ t : State, exec (.raise tag n) s = .next t
            ∧ t.loader l =
              { s.loader l with
                state := if s.spoutUp l then .aligned else .raising
                spoutTimer := if s.spoutUp l then none else some 60000 }
            ∧ t.port l = portAfter (s.port l) .raise
            ∧ (∀ st ∈ s.plan.steps, s.planSound → st.isRunning = true →
              t.step? st.id = some (if st.loader = l ∧ (s.loader l).state = .lowered then st.unloaded else st))
            ∧ ((∀ st ∈ s.plan.steps, st.isRunning = true → st.loader ≠ l ∨ (s.loader l).state = .lowering) → s.marked →
              t.plan = s.plan ∧ t.weigh = s.weigh ∧ t.book = s.book)
            ∧ t.gate.demand = t.demandNow
            ∧ s.served t .terminal tag .done .empty
            ∧ s.keepsNotifying t [.loader l, .port l, .plan, .gate, .weigh, .book]
            ∧ (s.still → s.keeps t [.loader l, .port l, .link .terminal]))
        ∧ (s.estop = false → ((s.loader l).state = .lowered ∨ (s.loader l).state = .lowering) →
          s.restriction (loaderZone l) = .stop →
          exec (.raise tag n) s = .next (s.answered .terminal tag .dust .empty))

/-- STOP of a travelling loader and RECOVER of a faulted one make the loader IDLE with the stationary claim at its last
report and no pin; STOP issues a STOP order, RECOVER none. The other loader, the map, the diverter, the dust zones and the
lines stand. STOP of a loader not in TRAVEL is STATE; RECOVER of one not in FAULT, without its spout-up condition, with a
report age of 1,000 ms or a drive status FAULT, or under an emergency stop is STATE, and one whose claim would lie too near
the other loader's is HELD; a loader other than 1 and 2 is RANGE. The release makes the loader's PINNED entry VALID and its
PINNED_STALE one INVALID, and a running step that loses that pin is SUSPENDED with LOADER (R19, R42, R57, R65, R66). -/
def Obligations.LoaderIdles : Prop :=
  (∀ (tag : Byte) (n : Nat) (s : State), s.takes .terminal → n ≠ 1 → n ≠ 2 →
    exec (.stop tag n) s = .next (s.answered .terminal tag .range .empty)
      ∧ exec (.recover tag n) s = .next (s.answered .terminal tag .range .empty))
    ∧ ∀ (tag : Byte) (n : Nat) (l : Loader) (rep : Report) (s : State), s.takes .terminal → loaderOf n = some l →
      (s.loader l).lastReport = some rep →
      ((s.loader l).state = .travel →
        ∃ t : State, exec (.stop tag n) s = .next t
          ∧ t.loader l =
            { s.loader l with
              state := .idle
              cause := none
              claim := some (claimAt rep.x)
              alignCount := 0
              travelTimer := none }
          ∧ t.port l = portAfter (s.port l) .stop ∧ t.pin? l = none
          ∧ t.cache = ⟨s.cache.entries.map (releasedAs l), s.cache.pointer⟩
          ∧ (∀ st ∈ s.plan.steps, s.planSound → st.isRunning = true → st.loader = l →
            s.pinKey? l = some ⟨st.hold, st.point⟩ → t.step? st.id = some st.unloaded)
          ∧ s.served t .terminal tag .done (.claim (claimAt rep.x))
          ∧ s.keepsNotifying t [.cache, .loader l, .port l, .plan, .gate, .weigh, .book]
          ∧ (s.still → s.keeps t [.cache, .loader l, .port l, .link .terminal]))
        ∧ ((s.loader l).state ≠ .travel → exec (.stop tag n) s = .next (s.answered .terminal tag .state .empty))
        ∧ ((s.loader l).state ≠ .fault ∨ s.spoutUp l = false ∨ 1000 ≤ (s.loader l).reportAge ∨ rep.status = .fault
            ∨ s.estop = true → exec (.recover tag n) s = .next (s.answered .terminal tag .state .empty))
        ∧ ((s.loader l).state = .fault → s.spoutUp l = true → (s.loader l).reportAge < 1000 → rep.status ≠ .fault →
          s.estop = false → ¬ s.claimFits l (claimAt rep.x) →
          exec (.recover tag n) s = .next (s.answered .terminal tag .held .empty))
        ∧ ((s.loader l).state = .fault → s.spoutUp l = true → (s.loader l).reportAge < 1000 → rep.status ≠ .fault →
          s.estop = false →
          s.claimFits l (claimAt rep.x) →
          ∃ t : State, exec (.recover tag n) s = .next t
            ∧ t.loader l =
              { s.loader l with
                state := .idle
                cause := none
                claim := some (claimAt rep.x)
                alignCount := 0
                travelTimer := none }
            ∧ t.pin? l = none
            ∧ t.cache = ⟨s.cache.entries.map (releasedAs l), s.cache.pointer⟩
            ∧ (∀ st ∈ s.plan.steps, s.planSound → st.isRunning = true → st.loader = l →
              s.pinKey? l = some ⟨st.hold, st.point⟩ → t.step? st.id = some st.unloaded)
            ∧ s.served t .terminal tag .done (.claim (claimAt rep.x))
            ∧ s.keepsNotifying t [.cache, .loader l, .plan, .gate, .weigh, .book]
            ∧ (s.still → s.keeps t [.cache, .loader l, .link .terminal]))

/-- A position report: out of range it is set aside and its frame leaves the receiver hunting (log 12); in range it is
recorded and restarts the report age. The first report of an UNREPORTED loader that keeps the gap makes it IDLE with its
stationary claim, and one that does not faults it with DRIFT; in TRAVEL a second consecutive report within 150 mm makes it
ALIGNED, and one farther off begins the count again; in the four stationary working states a report more than 500 mm off
faults it with DRIFT, and one within 500 mm is recorded and changes nothing else, as is a report in IDLE and in FAULT; a status
of FAULT faults it with DRIVE_FAULT. At a fault the timers stop, the STOP order is issued, EQUIPMENT_FAULT is raised, the
pin, target and tip limit stand, and a running step whose loader was LOWERED is SUSPENDED with LOADER; without a running step
on this loader the plan, the belt and the book stand. The map, the cache, the diverter, the zones, the lines and the other
loader stand at every report (R19, R52, R53, R55, R62, R64; that the alignment count stands at a fault: log 30). -/
def Obligations.ReportsActed : Prop :=
  ∀ (l : Loader) (st : DriveStatus) (x y : Nat) (s : State), s.mainSupply = true →
    (250000 < x ∨ 30000 < y →
      exec (.positionReport l st x y) s = .next (s.withPort l { s.port l with receiver := .hunting }))
      ∧ (x ≤ 250000 → y ≤ 30000 →
        ∃ t : State, exec (.positionReport l st x y) s = .next t
          ∧ (t.loader l).lastReport = some ⟨x, y, st⟩ ∧ (t.loader l).reportAge = 0
          ∧ t.loader (otherLoader l) = s.loader (otherLoader l) ∧ t.cache = s.cache
          ∧ s.keepsNotifying t [.loader l, .port l, .plan, .gate, .weigh, .book] ∧ s.noticedOnly t
          ∧ ((s.loader l).state = .fault ∨ (s.loader l).state = .idle ∧ st ≠ .fault
              ∨ ((s.loader l).state = .aligned ∨ (s.loader l).state = .lowering ∨ (s.loader l).state = .lowered
                  ∨ (s.loader l).state = .raising) ∧ st ≠ .fault
                ∧ (∃ q : Position, (s.loader l).target = some q ∧ (x : Int) - q.x ≤ 500 ∧ (q.x : Int) - x ≤ 500
                  ∧ (y : Int) - q.y ≤ 500 ∧ (q.y : Int) - y ≤ 500) →
            t = (s.withPort l { s.port l with receiver := .hunting }).withLoader l
              { s.loader l with lastReport := some ⟨x, y, st⟩, reportAge := 0 })
          ∧ ((s.loader l).state ≠ .fault → (t.loader l).state = .fault →
            t.port l = { portAfter (s.port l) .stop with receiver := .hunting }
              ∧ (t.loader l).travelTimer = none ∧ (t.loader l).spoutTimer = none
              ∧ (t.loader l).target = (s.loader l).target ∧ (t.loader l).tipLimit = (s.loader l).tipLimit
              ∧ (t.loader l).alignCount = (s.loader l).alignCount
              ∧ (t.loader l).claim =
                (if (s.loader l).state = .unreported then some (claimAt x) else (s.loader l).claim)
              ∧ (s.noticesShaped → t.tells (.equipmentFault (.loader l)))
              ∧ (∀ u ∈ s.plan.steps, s.planSound → u.isRunning = true → u.loader = l → (s.loader l).state = .lowered →
                t.step? u.id = some { u with state := .suspended, suspension := { u.suspension with loader := true } })
              ∧ ((∀ u ∈ s.plan.steps, u.isRunning = true → u.loader ≠ l) → s.marked →
                t.plan = s.plan ∧ t.weigh = s.weigh ∧ t.book = s.book))
          ∧ ((s.loader l).state = .fault ∨ (s.loader l).state = .idle ∧ st ≠ .fault →
            (t.loader l).state = (s.loader l).state)
          ∧ ((s.loader l).state = .unreported → st ≠ .fault →
            s.claimFits l (claimAt x) →
            (t.loader l).state = .idle ∧ (t.loader l).claim = some (claimAt x))
          ∧ ((s.loader l).state = .unreported → st ≠ .fault → ¬ s.claimFits l (claimAt x) →
            (t.loader l).state = .fault ∧ (t.loader l).cause = some .drift ∧ (t.loader l).claim = some (claimAt x))
          ∧ (∀ q : Position, (s.loader l).state = .travel → st ≠ .fault → (s.loader l).target = some q →
            (150 < (x : Int) - q.x ∨ 150 < (q.x : Int) - x ∨ 150 < (y : Int) - q.y ∨ 150 < (q.y : Int) - y) →
            (t.loader l).state = .travel ∧ (t.loader l).alignCount = 0)
          ∧ (∀ q : Position, (s.loader l).state = .travel → st ≠ .fault → (s.loader l).target = some q →
            (x : Int) - q.x ≤ 150 → (q.x : Int) - x ≤ 150 → (y : Int) - q.y ≤ 150 → (q.y : Int) - y ≤ 150 →
            ((s.loader l).alignCount = 0 → (t.loader l).state = .travel ∧ (t.loader l).alignCount = 1)
              ∧ ((s.loader l).alignCount = 1 → (t.loader l).state = .aligned ∧ (t.loader l).alignCount = 0
                ∧ (t.loader l).travelTimer = none
                ∧ (t.loader l).claim = some (claimAt x)))
          ∧ (∀ q : Position, ((s.loader l).state = .aligned ∨ (s.loader l).state = .lowering ∨ (s.loader l).state = .lowered
              ∨ (s.loader l).state = .raising) → st ≠ .fault → (s.loader l).target = some q →
            (500 < (x : Int) - q.x ∨ 500 < (q.x : Int) - x ∨ 500 < (y : Int) - q.y ∨ 500 < (q.y : Int) - y) →
            (t.loader l).state = .fault ∧ (t.loader l).cause = some .drift)
          ∧ (st = .fault → (s.loader l).state ≠ .fault →
            (t.loader l).state = .fault ∧ (t.loader l).cause = some .driveFault))

/-- A loader's own timers and the loss of its drive: in the states that each rule names the loader enters FAULT with the
cause, its timers stopped, a STOP order issued and EQUIPMENT_FAULT raised; its pin, claim, target and tip limit stand. A
drive lost under the LOWERED loader of the running step SUSPENDS it with LOADER; otherwise the plan, the belt and the book
stand (R19, R56, R59, R62, R64, R66; the rows act whenever the timer runs: the model's choice, log 5; that the alignment
count stands too: log 30). -/
def Obligations.LoaderTimersFault : Prop :=
  ∀ (l : Loader) (s : State), s.mainSupply = true → s.noticesShaped →
    ((s.loader l).state = .travel → (s.loader l).travelTimer.isSome = true →
      ∃ t : State, exec (.travelTimerExpiry l) s = .next t ∧ t.loader l = faultedAs (s.loader l) .travelTime
        ∧ t.port l = portAfter (s.port l) .stop ∧ t.tells (.equipmentFault (.loader l))
        ∧ (s.marked → t.plan = s.plan ∧ t.weigh = s.weigh ∧ t.book = s.book)
        ∧ s.keepsNotifying t [.loader l, .port l, .plan, .gate, .weigh, .book])
      ∧ ((s.loader l).state = .lowering ∨ (s.loader l).state = .raising → (s.loader l).spoutTimer.isSome = true →
        ∃ t : State, exec (.spoutTimerExpiry l) s = .next t ∧ t.loader l = faultedAs (s.loader l) .spoutTime
          ∧ t.port l = portAfter (s.port l) .stop ∧ t.tells (.equipmentFault (.loader l))
          ∧ (s.marked → t.plan = s.plan ∧ t.weigh = s.weigh ∧ t.book = s.book)
          ∧ s.keepsNotifying t [.loader l, .port l, .plan, .gate, .weigh, .book])
      ∧ ((s.loader l).state ≠ .unreported → (s.loader l).state ≠ .fault →
        ∃ t : State, exec (.driveLost l) s = .next t
          ∧ t.loader l =
            { faultedAs (s.loader l) .driveLost with reportAge := max (s.loader l).reportAge 1000 }
          ∧ t.port l = portAfter (s.port l) .stop ∧ t.tells (.equipmentFault (.loader l))
          ∧ (∀ st ∈ s.plan.steps, s.planSound → st.isRunning = true → st.loader = l → (s.loader l).state = .lowered →
            t.step? st.id = some st.unloaded)
          ∧ ((∀ st ∈ s.plan.steps, st.isRunning = true → st.loader ≠ l ∨ (s.loader l).state ≠ .lowered) → s.marked →
            t.plan = s.plan ∧ t.weigh = s.weigh ∧ t.book = s.book)
          ∧ t.gate.demand = t.demandNow
          ∧ s.keepsNotifying t [.loader l, .port l, .plan, .gate, .weigh, .book])

/-! ### The Pour Plan -/

/-- STEP_INSERT whose five checks pass: the step record of the id counter's value, PENDING and unaccepted, stands at the
named place, the counter advances, an EMPTY plan becomes DRAFT, and nothing else changes; in SUBMITTED it is refused with
STATE, with a field outside its range of R3 with RANGE, without room with NO_ROOM, and with STATE for a position that is not in
the list or, in ACCEPTED, has a step that is not PENDING at or behind it (R3, R4, R5). -/
def Obligations.StepInserted : Prop :=
  ∀ (tag : Byte) (before : Option Nat) (h p n lot target : Nat) (l : Loader) (c : Bool) (s : State), s.takes .vessel →
    (s.plan.state = .submitted →
      exec (.stepInsert tag before h p n lot target c) s = .next (s.answered .vessel tag .state .empty))
      ∧ (s.plan.state ≠ .submitted →
        h = 0 ∨ 12 < h ∨ 7 < p ∨ n = 0 ∨ 2 < n ∨ lot = 0 ∨ 8 < lot ∨ target < 100 ∨ 20000000 < target →
        exec (.stepInsert tag before h p n lot target c) s = .next (s.answered .vessel tag .range .empty))
      ∧ (loaderOf n = some l → 1 ≤ h → h ≤ 12 → p ≤ 7 → 1 ≤ lot → lot ≤ 8 → 100 ≤ target → target ≤ 20000000 →
        s.plan.state ≠ .submitted →
        (64 ≤ s.plan.steps.length ∨ 256 ≤ s.plan.idCounter →
          exec (.stepInsert tag before h p n lot target c) s = .next (s.answered .vessel tag .noRoom .empty))
          ∧ (∀ id : Nat, s.plan.steps.length < 64 → s.plan.idCounter < 256 → before = some id →
            ((∀ st ∈ s.plan.steps, st.id ≠ id)
              ∨ s.plan.state = .accepted ∧ ∃ (pre post : List StepRecord), s.plan.steps = pre ++ post
                ∧ (∀ q ∈ pre, q.id ≠ id) ∧ (post.head?.map (·.id)) = some id ∧ ∃ q ∈ post, q.state ≠ .pending) →
            exec (.stepInsert tag before h p n lot target c) s = .next (s.answered .vessel tag .state .empty))
          ∧ ∀ pre post : List StepRecord, s.plan.steps.length < 64 → s.plan.idCounter < 256 →
            s.plan.steps = pre ++ post →
            (before = none ∧ post = []
              ∨ ∃ (st : StepRecord) (rest : List StepRecord), post = st :: rest ∧ before = some st.id ∧ ∀ q ∈ pre, q.id ≠ st.id) →
            (s.plan.state = .accepted → ∀ q ∈ post, q.state = .pending) →
            exec (.stepInsert tag before h p n lot target c) s = .next
              ((s.withPlan
                { s.plan with
                  state := if s.plan.state = .empty then .draft else s.plan.state
                  steps := pre ++
                    ⟨s.plan.idCounter, h, p, l, lot, target, c, false, .pending, 0, ReasonSet.none, none, false⟩ :: post
                  idCounter := s.plan.idCounter + 1 }).answered .vessel tag .done (.stepId s.plan.idCounter)))

/-- STEP_DELETE is refused with STATE in EMPTY and SUBMITTED, for an id not in the list and for a step that is not PENDING;
otherwise the record leaves the list, the steps behind it keep their order, an emptied list makes the plan EMPTY, the id
counter and the asked set stand, and the answer is DONE. -/
def Obligations.StepDeleted : Prop :=
  ∀ (tag : Byte) (id : Nat) (s : State), s.takes .vessel →
    (s.plan.state = .empty ∨ s.plan.state = .submitted →
      exec (.stepDelete tag id) s = .next (s.answered .vessel tag .state .empty))
      ∧ ((∀ st ∈ s.plan.steps, st.id ≠ id) →
        exec (.stepDelete tag id) s = .next (s.answered .vessel tag .state .empty))
      ∧ ∀ (pre post : List StepRecord) (st : StepRecord), s.plan.steps = pre ++ st :: post → st.id = id →
        (∀ q ∈ pre, q.id ≠ id) →
        (st.state ≠ .pending → exec (.stepDelete tag id) s = .next (s.answered .vessel tag .state .empty))
          ∧ (st.state = .pending → s.plan.state = .draft ∨ s.plan.state = .accepted →
            exec (.stepDelete tag id) s = .next
              ((s.withPlan
                { s.plan with
                  state := if pre ++ post = [] then .empty else s.plan.state
                  steps := pre ++ post }).answered .vessel tag .done .empty))

/-- STEP_SKIP of a PENDING step makes it SKIPPED in its place with STEP_STATE. STEP_AMEND of a PENDING step gives the named
field its new value, clears the accepted flag and changes nothing else. A target amendment of a running step that would
reach below the committed mass sets the target to that mass and the tail allowance, with the clamp flag, and cuts the step
off; any other sets the target without the flag, and the evaluation follows: it cuts the step off with LOT_ORDER when the
lot remaining is 0 or less, and otherwise sets the trim flag exactly when the effective remaining is at most the trim band.
In CONSENT_WAIT a target of at most the tail allowance is RANGE, and any other is set. Each is refused with STATE in EMPTY
and SUBMITTED and for an id not in the list; STEP_SKIP for any step that is not PENDING; STEP_AMEND with RANGE for a field
other than the six or a value outside its range, and with STATE for a step that is neither PENDING nor current, and for any
field but TARGET of the current step (R7, R8, R25, R103, R104). -/
def Obligations.StepEdited : Prop :=
  ∀ (tag : Byte) (id : Nat) (s : State), s.takes .vessel →
    (s.plan.state = .empty ∨ s.plan.state = .submitted ∨ (∀ st ∈ s.plan.steps, st.id ≠ id) →
      exec (.stepSkip tag id) s = .next (s.answered .vessel tag .state .empty)
        ∧ ∀ n v : Nat, exec (.stepAmend tag id n v) s = .next (s.answered .vessel tag .state .empty))
      ∧ ∀ st : StepRecord, (s.plan.steps.map (·.id)).Nodup → s.plan.state = .draft ∨ s.plan.state = .accepted →
        s.step? id = some st →
        (st.state = .pending → s.noticesShaped → s.marked →
          ∃ t : State, exec (.stepSkip tag id) s = .next t
            ∧ t.plan.steps = s.plan.steps.map (fun q => if q.id = id then { q with state := .skipped } else q)
            ∧ t.plan.state = s.plan.state ∧ t.plan.tag = s.plan.tag ∧ t.tells (.stepState id)
            ∧ s.served t .vessel tag .done .empty ∧ s.keepsNotifying t [.plan, .gate, .book])
          ∧ (st.state ≠ .pending → exec (.stepSkip tag id) s = .next (s.answered .vessel tag .state .empty))
          ∧ (∀ n v : Nat, n = 0 ∧ (v = 0 ∨ 12 < v) ∨ n = 1 ∧ 7 < v ∨ n = 2 ∧ (v = 0 ∨ 2 < v) ∨ n = 3 ∧ (v = 0 ∨ 8 < v)
              ∨ n = 4 ∧ (v < 100 ∨ 20000000 < v) ∨ n = 5 ∧ 1 < v ∨ 5 < n →
            exec (.stepAmend tag id n v) s = .next (s.answered .vessel tag .range .empty))
          ∧ (∀ (f : AmendField) (n v : Nat), amendFieldOf n = some f → amendValueOk f v = true →
            (st.state = .pending →
              ∃ u : StepRecord,
                exec (.stepAmend tag id n v) s = .next
                    ((s.withPlan
                      { s.plan with
                        steps := s.plan.steps.map fun q => if q.id = id then u else q }).answered .vessel tag .done .empty)
                  ∧ u = (match f with
                    | .hold => { st with hold := v, accepted := false }
                    | .point => { st with point := v, accepted := false }
                    | .loader => { st with loader := if v = 1 then .l1 else .l2, accepted := false }
                    | .lot => { st with lot := v, accepted := false }
                    | .target => { st with target := v, accepted := false }
                    | .consent => { st with consentRequired := v == 1, accepted := false }))
              ∧ (st.state ≠ .pending → st.isCurrent = false ∨ n ≠ 4 →
                exec (.stepAmend tag id n v) s = .next (s.answered .vessel tag .state .empty)))
          ∧ (∀ v : Nat, st.state = .consentWait → 100 ≤ v → v ≤ 20000000 →
            exec (.stepAmend tag id 4 v) s = .next
              (if v ≤ s.weigh.config.tail then s.answered .vessel tag .range .empty
              else
                (s.withPlan
                  { s.plan with
                    steps := s.plan.steps.map fun q => if q.id = id then { st with target := v } else q }).answered .vessel
                  tag .done .empty))
          ∧ ∀ (v c : Nat), st.isRunning = true → s.plan.tag = some id → 0 < s.weigh.config.runOut → 100 ≤ v →
            v ≤ 20000000 → c = st.delivered + s.onBelt id →
            (v ≤ c + s.weigh.config.tail →
              ∃ t : State, exec (.stepAmend tag id 4 v) s = .next t
                ∧ t.step? id = some
                  { st with target := c + s.weigh.config.tail, state := .cutoff, suspension := ReasonSet.none }
                ∧ s.served t .vessel tag .done (.clamp true) ∧ s.keepsNotifying t [.plan, .gate, .weigh, .book])
              ∧ ∀ (rem eff : Int), c + s.weigh.config.tail < v → rem = (v : Int) - s.weigh.config.tail - c →
                eff = (match s.lot? st.lot with
                  | some r =>
                    match r.ordered with
                    | some o =>
                      min rem ((o : Int) - s.weigh.config.tail - (r.account.delivered.sum + r.account.inTransit : Nat))
                    | none => rem
                  | none => rem) →
                ∃ t : State, exec (.stepAmend tag id 4 v) s = .next t
                  ∧ (0 < eff → t.step? id = some { st with target := v }
                    ∧ (t.weigh.trimFlag = true ↔ eff ≤ (s.weigh.config.band : Int)))
                  ∧ (eff ≤ 0 →
                    t.step? id = some { st with target := v, state := .cutoff, suspension := ReasonSet.none }
                      ∧ t.weigh.trimFlag = false
                      ∧ t.plan.runOut = some
                        ⟨id, .lotOrder, if s.gateShut = true then some s.weigh.position else none⟩)
                  ∧ s.served t .vessel tag .done (.clamp false) ∧ s.keepsNotifying t [.plan, .gate, .weigh, .book]

/-- PLAN_SUBMIT moves DRAFT to SUBMITTED and PLAN_WITHDRAW SUBMITTED to DRAFT, changing no step; PLAN_ACCEPT in SUBMITTED
or ACCEPTED sets every accepted flag and makes the plan ACCEPTED; PLAN_RETURN moves SUBMITTED to DRAFT with every flag
clear. In the other plan states each is refused with STATE (R9, R10). -/
def Obligations.PlanMoves : Prop :=
  ∀ (tag : Byte) (s : State),
    (s.takes .vessel →
      exec (.planSubmit tag) s = .next
          (if s.plan.state = .draft then
            (s.withPlan { s.plan with state := .submitted }).answered .vessel tag .done .empty
          else s.answered .vessel tag .state .empty)
        ∧ exec (.planWithdraw tag) s = .next
          (if s.plan.state = .submitted then
            (s.withPlan { s.plan with state := .draft }).answered .vessel tag .done .empty
          else s.answered .vessel tag .state .empty))
      ∧ (s.takes .terminal →
        exec (.planAccept tag) s = .next
            (if s.plan.state = .submitted ∨ s.plan.state = .accepted then
              (s.withPlan
                { s.plan with
                  state := .accepted
                  steps := s.plan.steps.map fun st => { st with accepted := true } }).answered .terminal tag .done .empty
            else s.answered .terminal tag .state .empty)
          ∧ exec (.planReturn tag) s = .next
            (if s.plan.state = .submitted then
              (s.withPlan
                { s.plan with
                  state := .draft
                  steps := s.plan.steps.map fun st => { st with accepted := false } }).answered .terminal tag .done .empty
            else s.answered .terminal tag .state .empty))

/-- PLAN_CLEAR is refused with STATE while a step is in CONSENT_WAIT, FEEDING, SUSPENDED or CUTOFF; otherwise the plan is
EMPTY with no step, the id counter is 1, the asked set is empty, W stands, every queued parcel loses its tag and keeps its
lot, and the aged-report mark is none (R11, R71, R94). -/
def Obligations.PlanCleared : Prop :=
  ∀ (tag : Byte) (s : State), s.takes .vessel →
    ((∃ st ∈ s.plan.steps, st.state = .consentWait ∨ st.state = .feeding ∨ st.state = .suspended ∨ st.state = .cutoff) →
      exec (.planClear tag) s = .next (s.answered .vessel tag .state .empty))
      ∧ ((∀ st ∈ s.plan.steps, st.state = .pending ∨ st.state = .done ∨ st.state = .skipped) →
        exec (.planClear tag) s = .next
          ((((s.withPlan { s.plan with state := .empty, steps := [], idCounter := 1, asked := [] }).withWeigh
            { s.weigh with queue := s.weigh.queue.map fun p => { p with tag := none } }).withGate
            { s.gate with agedMark := none }).answered .vessel tag .done .empty))

/-- STEP_START of a step that may start and needs no consent: the step is the tag step, the open parcel has closed into the
Transit Queue, and the step is FEEDING when no reason stands at the entry and SUSPENDED with the reasons that stand
otherwise; the answer carries the state entered (R12, R13). -/
def Obligations.StepStartFeeds : Prop :=
  ∀ (tag : Byte) (st : StepRecord) (s : State), s.takes .terminal → (s.plan.steps.map (·.id)).Nodup → s.mayStart st →
    st.consentRequired = false → s.unpoured st → s.weigh.queue.length < 512 →
    ∃ t : State, exec (.stepStart tag st.id) s = .next t
      ∧ t.step? st.id = some (st.fedWith (s.standing false false))
      ∧ (∀ q ∈ s.plan.steps, q.id ≠ st.id → q.state ≠ .cutoff → t.step? q.id = some q)
      ∧ t.plan.state = .accepted ∧ t.plan.tag = some st.id ∧ t.plan.window = s.plan.window ∧ t.plan.asked = s.plan.asked
      ∧ t.weigh.openParcel = none ∧ t.weigh.queue = s.weigh.queue ++ s.weigh.openParcel.toList
      ∧ t.gate.demand = t.demandNow
      ∧ s.served t .terminal tag .done (.entered (st.fedWith (s.standing false false)).state)
      ∧ s.keepsNotifying t [.plan, .gate, .weigh, .book]

/-- STEP_START of a step that may start and needs consent: the step is in CONSENT_WAIT without a lapse mark, its id has
joined the asked set, window 1 runs for W, CONSENT_ASK is raised, the tag step stands and the gate demand is CLOSED; the
answer carries CONSENT_WAIT. A STEP_START that fails one of its ten checks changes nothing and is refused by the first that
fails: STATE for a plan that is not ACCEPTED, a step that is not the first PENDING one or not accepted, or a current step;
then LOT, METROLOGY, STATE for the loader or the diverter, DUST, and RANGE for a margin that is not positive (R12, R14). -/
def Obligations.StepStartAsks : Prop :=
  ∀ (tag : Byte) (s : State), s.takes .terminal →
    (∀ id : Nat, s.plan.state ≠ .accepted
        ∨ ((s.plan.steps.find? fun q => q.state == .pending).all fun q => q.id != id) = true →
      exec (.stepStart tag id) s = .next (s.answered .terminal tag .state .empty))
      ∧ (∀ st : StepRecord, s.plan.state = .accepted → s.plan.steps.find? (fun q => q.state == .pending) = some st →
        (st.accepted = false
            ∨ (∃ q ∈ s.plan.steps, q.state = .consentWait ∨ q.state = .feeding ∨ q.state = .suspended) →
          exec (.stepStart tag st.id) s = .next (s.answered .terminal tag .state .empty))
          ∧ (st.accepted = true →
            (∀ q ∈ s.plan.steps, q.state ≠ .consentWait ∧ q.state ≠ .feeding ∧ q.state ≠ .suspended) →
            ((∀ r : LotRecord, s.lot? st.lot = some r → r.state ≠ .opened) →
              exec (.stepStart tag st.id) s = .next (s.answered .terminal tag .lot .empty))
              ∧ ∀ r : LotRecord, s.lot? st.lot = some r → r.state = .opened →
                (s.weigh.metrology.locked = false →
                  exec (.stepStart tag st.id) s = .next (s.answered .terminal tag .metrology .empty))
                  ∧ (s.weigh.metrology.locked = true →
                    ((s.loader st.loader).state ≠ .lowered ∨ s.pinKey? st.loader ≠ some ⟨st.hold, st.point⟩
                        ∨ s.diverter.state ≠ atLoader st.loader →
                      exec (.stepStart tag st.id) s = .next (s.answered .terminal tag .state .empty))
                      ∧ ((s.loader st.loader).state = .lowered → s.pinKey? st.loader = some ⟨st.hold, st.point⟩ →
                        s.diverter.state = atLoader st.loader →
                        (s.dustOf st.loader = .stop →
                          exec (.stepStart tag st.id) s = .next (s.answered .terminal tag .dust .empty))
                          ∧ (s.dustOf st.loader ≠ .stop → ¬ s.hasMargin st →
                            exec (.stepStart tag st.id) s = .next (s.answered .terminal tag .range .empty))))))
      ∧ ∀ st : StepRecord, (s.plan.steps.map (·.id)).Nodup → s.mayStart st → st.consentRequired = true → s.marked →
        s.noticesShaped →
        ∃ t : State, exec (.stepStart tag st.id) s = .next t
          ∧ t.plan.steps =
            s.plan.steps.map (fun q => if q.id = st.id then { st with state := .consentWait, lapseMark := false } else q)
          ∧ t.plan.window = some ⟨st.id, 1, s.plan.windowLength * 1000⟩ ∧ st.id ∈ t.plan.asked
          ∧ (∀ i ∈ s.plan.asked, i ∈ t.plan.asked) ∧ (∀ i ∈ t.plan.asked, i ∈ s.plan.asked ∨ i = st.id)
          ∧ t.plan.tag = s.plan.tag ∧ t.gate.demand = .closed
          ∧ t.tells (.stepState st.id) ∧ t.tells (.consentAsk st.id)
          ∧ s.served t .terminal tag .done (.entered .consentWait)
          ∧ s.keepsNotifying t [.plan, .gate, .book]

/-- CONSENT: a REFUSE of the waiting step returns it to PENDING with no lapse mark set and removes the window; a GRANT enters
it to feeding, with LOADER and DUST among its reasons where they stand, and answers the state with the reasons; a GRANT whose
margin has vanished passes the step at once to CUTOFF, with LOT_ORDER when the lot remaining is at most the step remaining and
TARGET otherwise; naming a step that is not waiting it is answered TOO_LATE when the step carries the lapse mark or its id has
been asked, and STATE otherwise, and changes nothing; a decision other than the two is RANGE (R13, R16, R17, R23, R24, R103;
that this RANGE comes before the other checks: log 20). -/
def Obligations.ConsentAnswered : Prop :=
  ∀ (tag : Byte) (id : Nat) (s : State), s.takes .vessel →
    (∀ st : StepRecord, s.planSound → s.step? id = some st → st.state = .consentWait →
      (s.marked →
        ∃ t : State, exec (.consent tag id 1) s = .next t
          ∧ t.plan.steps = s.plan.steps.map (fun q => if q.id = id then { st with state := .pending } else q)
          ∧ t.plan.window = none ∧ t.plan.tag = s.plan.tag ∧ t.plan.asked = s.plan.asked
          ∧ s.served t .vessel tag .done .empty ∧ s.keepsNotifying t [.plan, .gate, .book])
        ∧ (∀ rem : Int, s.unpoured st → ¬ s.hasMargin st → s.weigh.queue.length < 512 → 0 < s.weigh.config.runOut →
          rem = (st.target : Int) - s.weigh.config.tail →
          ∃ t : State, exec (.consent tag id 0) s = .next t
            ∧ t.step? id = some { st with state := .cutoff, suspension := ReasonSet.none }
            ∧ t.plan.tag = some id ∧ t.plan.window = none
            ∧ t.plan.runOut = some
              ⟨id, if ((s.lot? st.lot).any fun r => r.ordered.any fun o => decide ((o : Int) - s.weigh.config.tail -
                    (r.account.delivered.sum + r.account.inTransit : Nat) ≤ rem)) = true
                then .lotOrder else .target,
                if s.gateShut = true then some s.weigh.position else none⟩
            ∧ t.weigh.openParcel = none ∧ t.weigh.queue = s.weigh.queue ++ s.weigh.openParcel.toList
            ∧ s.served t .vessel tag .done (.granted .cutoff ReasonSet.none)
            ∧ s.keepsNotifying t [.plan, .gate, .weigh, .book])
        ∧ ∀ rs : ReasonSet, s.unpoured st → s.hasMargin st → s.weigh.queue.length < 512 →
          rs = s.standing (s.dustOf st.loader == .stop)
            (!((s.loader st.loader).state == .lowered && s.pinKey? st.loader == some ⟨st.hold, st.point⟩
              && s.diverter.state == atLoader st.loader)) →
          ∃ t : State, exec (.consent tag id 0) s = .next t
            ∧ t.step? id = some (st.fedWith rs) ∧ t.plan.tag = some id ∧ t.plan.window = none
            ∧ t.weigh.openParcel = none ∧ t.weigh.queue = s.weigh.queue ++ s.weigh.openParcel.toList
            ∧ s.served t .vessel tag .done (.granted (st.fedWith rs).state rs)
            ∧ s.keepsNotifying t [.plan, .gate, .weigh, .book])
      ∧ (∀ decision : Nat, 1 < decision →
        exec (.consent tag id decision) s = .next (s.answered .vessel tag .range .empty))
      ∧ ∀ decision : Nat, decision ≤ 1 → (∀ st : StepRecord, s.step? id = some st → st.state ≠ .consentWait) →
        ((∃ st : StepRecord, s.step? id = some st ∧ st.lapseMark = true) ∨ id ∈ s.plan.asked →
          exec (.consent tag id decision) s = .next (s.answered .vessel tag .tooLate .empty))
          ∧ ((∀ st : StepRecord, s.step? id = some st → st.lapseMark = false) → id ∉ s.plan.asked →
            exec (.consent tag id decision) s = .next (s.answered .vessel tag .state .empty))

/-- A window expiry: window 1 gives way to window 2 of W with CONSENT_LAPSE and CONSENT_ASK; at the end of window 2 the step
is PENDING with the lapse mark and its accepted flag, the record is absent, and CONSENT_LAPSE and STEP_STATE are raised
(R15; the row acts whenever the window runs: the model's choice, log 5). -/
def Obligations.ConsentWindowExpires : Prop :=
  ∀ (w : ConsentWindow) (s : State), s.mainSupply = true → s.noticesShaped → s.plan.window = some w →
    (w.number = 1 →
      ∃ t : State, exec .consentWindowExpiry s = .next t
        ∧ t.plan = { s.plan with window := some ⟨w.step, 2, s.plan.windowLength * 1000⟩ }
        ∧ t.tells (.consentLapse w.step) ∧ t.tells (.consentAsk w.step)
        ∧ s.noticedOnly t ∧ s.keepsNotifying t [.plan])
      ∧ (w.number = 2 → s.marked →
        ∃ t : State, exec .consentWindowExpiry s = .next t
          ∧ t.plan =
            { s.plan with
              window := none
              steps := s.plan.steps.map fun q =>
                if q.id = w.step then { q with state := .pending, lapseMark := true } else q }
          ∧ t.tells (.consentLapse w.step) ∧ t.tells (.stepState w.step)
          ∧ s.noticedOnly t ∧ s.keepsNotifying t [.plan, .gate, .book])

/-- HOLD, HALT and RELEASE act on the step in FEEDING or SUSPENDED: HOLD adds TERMINAL and HALT adds VESSEL, the step being
SUSPENDED after either; RELEASE removes VESSEL and leaves the state; without such a step each is refused with STATE, and so
is RELEASE when VESSEL is absent. -/
def Obligations.HoldHaltRelease : Prop :=
  ∀ (tag : Byte) (s : State), s.planSound →
    ((∀ st ∈ s.plan.steps, st.state ≠ .feeding ∧ st.state ≠ .suspended) →
      (s.takes .terminal → exec (.hold tag) s = .next (s.answered .terminal tag .state .empty))
        ∧ (s.takes .vessel → exec (.halt tag) s = .next (s.answered .vessel tag .state .empty)
          ∧ exec (.release tag) s = .next (s.answered .vessel tag .state .empty)))
      ∧ ∀ st ∈ s.plan.steps, st.state = .feeding ∨ st.state = .suspended →
        (s.takes .terminal →
          ∃ t : State, exec (.hold tag) s = .next t
            ∧ t.step? st.id = some { st with state := .suspended, suspension := { st.suspension with terminal := true } }
            ∧ s.served t .terminal tag .done .empty ∧ s.keepsNotifying t [.plan, .gate, .weigh, .book])
          ∧ (s.takes .vessel →
            (∃ t : State, exec (.halt tag) s = .next t
              ∧ t.step? st.id = some { st with state := .suspended, suspension := { st.suspension with vessel := true } }
              ∧ s.served t .vessel tag .done .empty ∧ s.keepsNotifying t [.plan, .gate, .weigh, .book])
              ∧ (st.suspension.vessel = true →
                exec (.release tag) s = .next
                  ((s.withPlan
                    { s.plan with
                      steps := s.plan.steps.map fun q =>
                        if q.id = st.id then { st with suspension := { st.suspension with vessel := false } }
                        else q }).answered .vessel tag .done .empty))
              ∧ (st.suspension.vessel = false →
                exec (.release tag) s = .next (s.answered .vessel tag .state .empty)))

/-- RESUME of a SUSPENDED step whose set holds no reason but TERMINAL returns it to FEEDING with an empty set; the tag step,
the open parcel and the queue stand. With another reason it is refused with STATE, listing the set, and without a SUSPENDED
step with STATE and no reasons (R21). -/
def Obligations.ResumeFeeds : Prop :=
  ∀ (tag : Byte) (s : State), s.planSound → s.takes .terminal →
    ((∀ st ∈ s.plan.steps, st.state ≠ .suspended) →
      exec (.resume tag) s = .next (s.answered .terminal tag .state (.reasons ReasonSet.none)))
      ∧ ∀ st ∈ s.plan.steps, st.state = .suspended →
        (({ st.suspension with terminal := false } : ReasonSet) ≠ ReasonSet.none →
          exec (.resume tag) s = .next (s.answered .terminal tag .state (.reasons st.suspension)))
          ∧ (({ st.suspension with terminal := false } : ReasonSet) = ReasonSet.none → s.marked →
            ∃ t : State, exec (.resume tag) s = .next t
              ∧ t.plan =
                { s.plan with
                  steps := s.plan.steps.map fun q =>
                    if q.id = st.id then { st with state := .feeding, suspension := ReasonSet.none } else q }
              ∧ t.gate.demand = t.demandNow
              ∧ s.served t .terminal tag .done .empty ∧ s.keepsNotifying t [.plan, .gate, .book])

/-- STEP_STOP and END_POUR of a step in FEEDING or SUSPENDED: the step is in CUTOFF with an empty set, an older step in CUTOFF
is DONE with its run-out cause, and the run-out record names the step with cause ENDED and, when the gate is found closed,
the belt position as its mark. STEP_STOP of a step in CONSENT_WAIT returns it to PENDING and removes the window, and
END_POUR of it is refused with STATE, as both are of any other step (R22, R24). -/
def Obligations.StepEnds : Prop :=
  ∀ (tag : Byte) (id : Nat) (s : State), s.planSound →
    (∀ st : StepRecord, s.step? id = some st → st.state = .feeding ∨ st.state = .suspended → 0 < s.weigh.config.runOut →
      ∀ (k : Link) (i : Instr), (k = .terminal ∧ i = .stepStop tag id ∨ k = .vessel ∧ i = .endPour tag id) → s.takes k →
        ∃ t : State, exec i s = .next t
          ∧ t.step? id = some { st with state := .cutoff, suspension := ReasonSet.none }
          ∧ t.plan.runOut = some ⟨id, .ended, if s.gateShut = true then some s.weigh.position else none⟩
          ∧ (s.plan.tag = some id → t.plan.tag = some id ∧ t.weigh.trimFlag = false)
          ∧ (∀ (r : RunOut) (q : StepRecord), s.plan.runOut = some r → r.step ≠ id → s.step? r.step = some q →
            q.state = .cutoff → t.step? r.step = some { q with state := .done, endCause := some r.cause })
          ∧ s.served t k tag .done .empty ∧ s.keepsNotifying t [.plan, .gate, .weigh, .book])
      ∧ (∀ st : StepRecord, s.step? id = some st → st.state = .consentWait →
        (s.takes .vessel → exec (.endPour tag id) s = .next (s.answered .vessel tag .state .empty))
          ∧ (s.takes .terminal → s.marked →
            ∃ t : State, exec (.stepStop tag id) s = .next t
              ∧ t.plan =
                { s.plan with
                  window := none
                  steps := s.plan.steps.map fun q => if q.id = id then { st with state := .pending } else q }
              ∧ s.served t .terminal tag .done .empty ∧ s.keepsNotifying t [.plan, .gate, .book]))
      ∧ ((∀ st : StepRecord, s.step? id = some st → st.isCurrent = false) →
        (s.takes .terminal → exec (.stepStop tag id) s = .next (s.answered .terminal tag .state .empty))
          ∧ (s.takes .vessel → exec (.endPour tag id) s = .next (s.answered .vessel tag .state .empty)))

/-! ### Settings -/

/-- The settings requests in range store exactly their values: W, a keep-out zone, a purge latch, the belt configuration on
an empty belt, and Q and S while unlocked with no lot OPEN or CLOSING; out of range each is refused with RANGE and changes
nothing; METROLOGY_SET with a lot OPEN or CLOSING is refused with STATE, and while locked is refused with LOCKED and raises
METROLOGY_ATTEMPT (R18, R34, R85, R88, R129). -/
def Obligations.SettingsStored : Prop :=
  ∀ (tag : Byte) (s : State),
    (s.takes .terminal →
      (∀ w : Nat, exec (.consentConfig tag w) s = .next
        (if 10 ≤ w ∧ w ≤ 600 then (s.withPlan { s.plan with windowLength := w }).answered .terminal tag .done .empty
        else s.answered .terminal tag .range .empty))
        ∧ (∀ (i xl xh yl yh : Nat) (e : Bool), exec (.zoneSet tag i e xl xh yl yh) s = .next
          (if i ≤ 3 ∧ xl ≤ xh ∧ xh ≤ 250000 ∧ yl ≤ yh ∧ yh ≤ 30000 then
            (s.withHatch { s.hatch with zones := s.hatch.zones.set i ⟨e, xl, xh, yl, yh⟩ }).answered .terminal tag .done
              .empty
          else s.answered .terminal tag .range .empty))
        ∧ (∀ (n w : Nat) (z : Zone), zoneOf n = some z → exec (.dustConfig tag n w) s = .next
          (if 30 ≤ w ∧ w ≤ 900 then
            (s.withZone z { s.dust.get z with latch := w }).answered .terminal tag .done .empty
          else s.answered .terminal tag .range .empty))
        ∧ (∀ n w : Nat, zoneOf n = none → exec (.dustConfig tag n w) s = .next (s.answered .terminal tag .range .empty))
        ∧ (∀ e d l r a b : Nat,
          ¬ (1 ≤ e ∧ e ≤ 100 ∧ 5000 ≤ d ∧ d ≤ 400000 ∧ 250 ≤ l ∧ l ≤ 2000 ∧ d ≤ 480 * l ∧ 1000 ≤ r ∧ r ≤ 100000
            ∧ a ≤ 20000 ∧ b ≤ 50000) →
          exec (.beltConfig tag e d l r a b) s = .next (s.answered .terminal tag .range .empty))
        ∧ (∀ e d l r a b : Nat, 1 ≤ e → e ≤ 100 → 5000 ≤ d → d ≤ 400000 → 250 ≤ l → l ≤ 2000 → d ≤ 480 * l → 1000 ≤ r →
          r ≤ 100000 → a ≤ 20000 → b ≤ 50000 →
          (s.weigh.queue = [] → s.weigh.openParcel = none →
            ∃ t : State, exec (.beltConfig tag e d l r a b) s = .next t ∧ t.weigh.config = ⟨e, d, l, r, a, b⟩
              ∧ t.weigh.position = s.weigh.position ∧ t.weigh.metrology = s.weigh.metrology
              ∧ t.weigh.queue = [] ∧ t.weigh.openParcel = none ∧ t.weigh.seqCounter = s.weigh.seqCounter
              ∧ s.served t .terminal tag .done .empty ∧ s.keepsNotifying t [.plan, .gate, .weigh, .book]
              ∧ (s.still → s.plan.tag = none → t = (s.withWeigh
                { s.weigh with config := ⟨e, d, l, r, a, b⟩ }).answered .terminal tag .done .empty))
            ∧ (s.weigh.queue ≠ [] ∨ s.weigh.openParcel ≠ none →
              exec (.beltConfig tag e d l r a b) s = .next (s.answered .terminal tag .state .empty))))
      ∧ (s.takes .survey →
        (∀ q sp : Nat, s.weigh.metrology.locked = false →
          (∀ r ∈ s.book.lots, r.state = .free ∨ r.state = .closed) →
          exec (.metrologySet tag q sp) s = .next
            (if q ∈ [1, 2, 5, 10, 20, 50] ∧ 900000 ≤ sp ∧ sp ≤ 1100000 then
              (s.withWeigh { s.weigh with metrology := ⟨q, sp, false⟩ }).answered .survey tag .done .empty
            else s.answered .survey tag .range .empty))
          ∧ (∀ q sp : Nat, s.weigh.metrology.locked = false →
            (∃ r ∈ s.book.lots, r.state = .opened ∨ r.state = .closing) →
            exec (.metrologySet tag q sp) s = .next (s.answered .survey tag .state .empty))
          ∧ ∀ q sp : Nat, s.weigh.metrology.locked = true → s.noticesShaped →
            ∃ t : State, exec (.metrologySet tag q sp) s = .next t ∧ t.tells .metrologyAttempt
              ∧ s.served t .survey tag .locked .empty ∧ s.keepsNotifying t [])

/-! ### Feed Gate and Diverter -/

/-- DIVERT whose checks pass: the flap command and its one output are the target's, the lapse flag is clear, and the state
is UNKNOWN with two or three conditions asserted, the target's position when its condition is the one asserted, and MOVING
with 20 s otherwise; the answer carries the state. A target outside the three is RANGE, MOVING or an open demand refuses it
with STATE, and a belt with grain refuses a loader with BELT_BUSY. A change of one of the conditions of lines 10 to 12
derives the state again by the six cases of R79, clears a lapse flag when it leaves one asserted, starts the move timer on
entry to MOVING and stops it on departure, raises EQUIPMENT_FAULT on an entry to UNKNOWN by two conditions, and suspends
with LOADER a running step whose loader the diverter leaves. The diverter's arrival, by the flap or at once by DIVERT, at
the running step's loader while that is LOWERED and pinned to the step's hold and pour point removes LOADER and leaves the
step's state (R19, R79 to R82; an entry to UNKNOWN is one from another state: log 14). -/
def Obligations.DiverterFollows : Prop :=
  (∀ (tag : Byte) (n : Nat) (s : State), s.takes .terminal → 2 < n →
      exec (.divert tag n) s = .next (s.answered .terminal tag .range .empty))
    ∧ (∀ (tag : Byte) (n : Nat) (p : FlapTarget) (s : State), s.takes .terminal → targetOf n = some p →
      (s.diverter.state = .moving ∨ s.gate.demand ≠ .closed →
        exec (.divert tag n) s = .next (s.answered .terminal tag .state .empty))
        ∧ (s.diverter.state ≠ .moving → s.gate.demand = .closed →
          (p ≠ .chute → s.weigh.queue ≠ [] ∨ s.weigh.openParcel ≠ none →
            exec (.divert tag n) s = .next (s.answered .terminal tag .beltBusy .empty))
            ∧ (p = .chute ∨ s.weigh.queue = [] ∧ s.weigh.openParcel = none →
              ∃ t : State, exec (.divert tag n) s = .next t
                ∧ t.diverter.command = some p ∧ t.diverter.lapse = false
                ∧ t.diverter.toL1 = (p == .l1) ∧ t.diverter.toL2 = (p == .l2) ∧ t.diverter.toReturn = (p == .chute)
                ∧ t.diverter.state =
                  (if 2 ≤ (s.cond 10).toNat + (s.cond 11).toNat + (s.cond 12).toNat then .unknown
                  else if s.cond (match p with
                    | .l1 => 10
                    | .l2 => 11
                    | .chute => 12) = true then p.reached
                  else .moving)
                ∧ t.diverter.timer = (if t.diverter.state = .moving then some 20000 else none)
                ∧ (∀ st ∈ s.plan.steps, s.planSound → st.isRunning = true →
                  t.step? st.id = some
                    (if s.diverter.state = atLoader st.loader ∧ t.diverter.state ≠ atLoader st.loader then st.unloaded
                    else if s.diverter.state ≠ atLoader st.loader ∧ t.pours st then st.reloaded
                    else st))
                ∧ (s.demandSound → t.gate.demand = t.demandNow)
                ∧ s.served t .terminal tag .done (.diverter t.diverter.state)
                ∧ s.keepsNotifying t [.diverter, .plan, .gate, .weigh, .book])))
    ∧ ∀ (i : Fin 16) (high b c10 c11 c12 lapse : Bool) (n : Nat) (new : DiverterState) (s : State),
      i.val = 10 ∨ i.val = 11 ∨ i.val = 12 → s.mayRise i high ∧ b = true ∨ s.mayFall i high ∧ b = false →
      c10 = (if i.val = 10 then b else s.cond 10) → c11 = (if i.val = 11 then b else s.cond 11) →
      c12 = (if i.val = 12 then b else s.cond 12) → n = c10.toNat + c11.toNat + c12.toNat →
      lapse = (s.diverter.lapse && n != 1) → new = diverterBy n (placeOf c10 c11 c12) s.diverter.command lapse →
      s.noticesShaped →
      ∃ t : State, exec (.conditionChange i high) s = .next t
        ∧ t.diverter =
          { s.diverter with
            state := new
            lapse := lapse
            timer :=
              if new ≠ .moving then none else if s.diverter.state = .moving then s.diverter.timer else some 20000 }
        ∧ (2 ≤ n → s.diverter.state ≠ .unknown → t.tells (.equipmentFault .diverter))
        ∧ (∀ st ∈ s.plan.steps, s.planSound → st.isRunning = true → s.diverter.state = atLoader st.loader →
          new ≠ atLoader st.loader → s.diverterSound →
          t.step? st.id = some { st with state := .suspended, suspension := { st.suspension with loader := true } })
        ∧ (∀ st ∈ s.plan.steps, s.planSound → st.isRunning = true → s.diverter.state ≠ atLoader st.loader →
          t.step? st.id = some (if t.pours st then st.reloaded else st))
        ∧ (new = s.diverter.state → t.plan = s.plan ∧ t.gate = s.gate)
        ∧ s.noticedOnly t ∧ s.keepsNotifying t [.lines, .diverter, .plan, .gate, .weigh, .book]

/-- FEED_RESET is refused with STATE without a gate fault or without the gate-closed condition; otherwise the fault is absent,
the gate CLOSED, and GATE leaves the set of the suspended step, which stays SUSPENDED (R75). -/
def Obligations.FeedResetClears : Prop :=
  ∀ (tag : Byte) (s : State), s.takes .terminal →
    (s.gate.fault = false ∨ s.gateShut = false →
      exec (.feedReset tag) s = .next (s.answered .terminal tag .state .empty))
      ∧ (s.gate.fault = true → s.gateShut = true → s.planSound →
        ∃ t : State, exec (.feedReset tag) s = .next t
          ∧ t.gate.fault = false ∧ t.gate.state = .closed ∧ t.gate.timer = none ∧ t.gate.demand = .closed
          ∧ (∀ st ∈ s.plan.steps, st.state = .suspended →
            t.step? st.id = some { st with suspension := { st.suspension with gate := false } })
          ∧ s.served t .terminal tag .done .empty ∧ s.keepsNotifying t [.plan, .gate, .weigh, .book])

/-- The closure timer's expiry in CLOSING faults the gate, raises EQUIPMENT_FAULT and suspends a feeding step with GATE; the
move timer's expiry in MOVING makes the diverter UNKNOWN with the lapse flag and no output, and raises EQUIPMENT_FAULT; the
passing of 600 s by the age of a level raises LEVEL_AGED once for the step feeding into the hold (R71, R74, R80; the
rows act whenever the timer runs: the model's choice, log 5). -/
def Obligations.GateTimersExpire : Prop :=
  ∀ s : State, s.mainSupply = true → s.noticesShaped →
    (s.gate.state = .closing → s.gate.timer.isSome = true →
      ∃ t : State, exec .closureTimerExpiry s = .next t
        ∧ t.gate.state = .fault ∧ t.gate.fault = true ∧ t.gate.timer = none ∧ t.gate.demand = .closed
        ∧ t.tells (.equipmentFault .gate)
        ∧ (∀ st ∈ s.plan.steps, s.planSound → st.isRunning = true →
          t.step? st.id = some { st with state := .suspended, suspension := { st.suspension with gate := true } })
        ∧ s.noticedOnly t ∧ s.keepsNotifying t [.gate, .plan, .weigh, .book])
      ∧ (s.gate.state ≠ .closing → exec .closureTimerExpiry s = .next s)
      ∧ (s.diverter.state = .moving → s.diverter.timer.isSome = true →
        ∃ t : State, exec .moveTimerExpiry s = .next t
          ∧ t.diverter = ⟨.unknown, none, none, true, false, false, false⟩ ∧ t.tells (.equipmentFault .diverter)
          ∧ s.noticedOnly t ∧ s.keepsNotifying t [.diverter, .plan, .gate, .weigh, .book])
      ∧ (s.diverter.state ≠ .moving → exec .moveTimerExpiry s = .next s)
      ∧ ∀ (h : Nat) (r : LevelRecord), s.level? h = some r → r.age ≤ 600 →
        ∃ t : State, exec (.levelAgeExpiry h) s = .next t
          ∧ t.level? h = some ⟨r.height, 601, 0⟩ ∧ (∀ j : Nat, j ≠ h → t.level? j = s.level? j)
          ∧ t.gate.demand = t.demandNow
          ∧ (∀ st : StepRecord, s.feeding? = some st → st.hold = h → s.gate.agedMark ≠ some st.id →
            t.gate.agedMark = some st.id ∧ t.tells (.levelAged h))
          ∧ (s.gate.agedMark = (s.feeding?.map (·.id)) → t.gate.agedMark = s.gate.agedMark)
          ∧ s.noticedOnly t ∧ s.keepsNotifying t [.hatch, .gate, .plan, .weigh, .book]

/-! ### Weighing -/

/-- An increment with no tag step is booked to the unassigned record and to the open parcel, which it opens when absent;
with a tag step it is booked to the step's lot, then the cut-off and trim evaluation is made: the step is cut off when its
effective remaining is 0 or less, with LOT_ORDER when the lot remaining is at most the step remaining and TARGET otherwise,
and the trim flag is set exactly when the effective remaining is at most the trim band (R90, R91, R92, R102, R103, R104). -/
def Obligations.IncrementBooks : Prop :=
  ∀ s : State, s.mainSupply = true →
    (∀ k g : Nat, s.plan.tag = none → s.marked → g = s.weigh.metrology.quantum * s.weigh.metrology.span →
      k = (s.book.unassigned.residue + g) / 1000000 → s.book.unassigned.weighed + k ≤ 4000000000 →
      s.book.unassigned.inTransit + k ≤ 4000000000 →
      ∃ t : State, exec .increment s = .next t
        ∧ t.book =
          { s.book with
            unassigned :=
              { s.book.unassigned with
                residue := (s.book.unassigned.residue + g) % 1000000
                weighed := s.book.unassigned.weighed + k
                inTransit := s.book.unassigned.inTransit + k }
            draws := s.book.draws + 1 }
        ∧ t.weigh =
          (match s.weigh.openParcel with
            | some p => { s.weigh with openParcel := some { p with mass := p.mass + k } }
            | none =>
              { s.weigh with
                openParcel := some ⟨s.weigh.seqCounter, none, none, k, s.weigh.position⟩
                seqCounter := s.weigh.seqCounter + 1 })
        ∧ s.keeps t [.weigh, .book, .gate])
      ∧ ∀ (k g id : Nat) (st : StepRecord) (r : LotRecord) (rem : Int), s.plan.tag = some id → s.step? id = some st →
        s.lot? st.lot = some r → (∀ p : Parcel, s.weigh.openParcel = some p → p.tag = some id ∧ p.lot = some st.lot) →
        g = s.weigh.metrology.quantum * s.weigh.metrology.span → k = (r.account.residue + g) / 1000000 →
        r.account.weighed + k ≤ 4000000000 → r.account.inTransit + k ≤ 4000000000 →
        rem = (st.target : Int) - s.weigh.config.tail - (st.delivered + s.onBelt id + k : Nat) →
        ∃ t : State, exec .increment s = .next t
          ∧ t.lot? st.lot = some
            { r with
              account :=
                { r.account with
                  residue := (r.account.residue + g) % 1000000
                  weighed := r.account.weighed + k
                  inTransit := r.account.inTransit + k } }
          ∧ t.book.unassigned = s.book.unassigned
          ∧ t.weigh.openParcel =
            (match s.weigh.openParcel with
              | some p => some { p with mass := p.mass + k }
              | none => some ⟨s.weigh.seqCounter, some id, some st.lot, k, s.weigh.position⟩)
          ∧ t.weigh.queue = s.weigh.queue ∧ t.weigh.position = s.weigh.position ∧ t.plan.tag = some id
          ∧ (∀ eff : Int,
            eff = (match r.ordered with
              | some o =>
                min rem ((o : Int) - s.weigh.config.tail - (r.account.delivered.sum + r.account.inTransit + k : Nat))
              | none => rem) →
            (0 < eff → t.step? id = some st
              ∧ (st.isRunning = true → (t.weigh.trimFlag = true ↔ eff ≤ (s.weigh.config.band : Int))))
              ∧ (eff ≤ 0 → st.isRunning = true →
                t.step? id = some { st with state := .cutoff, suspension := ReasonSet.none }
                  ∧ t.weigh.trimFlag = false
                  ∧ t.plan.runOut = some
                    ⟨id, if (r.ordered.any fun o => decide ((o : Int) - s.weigh.config.tail -
                          (r.account.delivered.sum + r.account.inTransit + k : Nat) ≤ rem)) = true
                      then .lotOrder else .target,
                      if s.gateShut = true then some s.weigh.position else none⟩))
          ∧ s.keepsNotifying t [.weigh, .book, .plan, .gate]

/-- A belt advance moves the belt position by the encoder pitch, modulo 2^32. A head parcel that has reached the transit
distance leaves the queue and is booked by the diverter state and the loader there: Return, Spill with SPILL, or delivered
to the pinned hold, on-plan with the mass added to its step's P, or off-plan with OFF_PLAN. An open parcel that has reached
the parcel length closes into the queue, and a run-out whose three conditions hold makes its step DONE. Stated where one
parcel is due; several at once and lots in CLOSING are the matter of DischargesInOrder (R24, R89, R93, R98, R99, R100). -/
def Obligations.BeltAdvances : Prop :=
  ∀ (s : State) (pos : Word), s.mainSupply = true → pos = s.weigh.position + BitVec.ofNat 32 s.weigh.config.pitch →
    (∀ (p : Parcel) (rest : List Parcel) (a : Account) (m : Nat), s.weigh.queue = p :: rest → s.noticesShaped →
      (∀ r ∈ s.book.lots, r.state ≠ .closing) →
      s.weigh.config.transit ≤ (pos - p.launch).toNat →
      (∀ q ∈ rest, (pos - q.launch).toNat < s.weigh.config.transit) →
      (∀ q : Parcel, s.weigh.openParcel = some q → (pos - q.launch).toNat < s.weigh.config.length) →
      (∀ n : Nat, p.lot = some n → (s.lot? n).isSome = true) → a = s.account p.lot → m = p.mass → m ≤ a.inTransit →
      a.inTransit ≤ 4000000000 →
      ∃ t : State, exec .beltAdvance s = .next t ∧ t.weigh.position = pos ∧ t.weigh.queue = rest
        ∧ t.weigh.openParcel = s.weigh.openParcel
        ∧ (∀ o : Option Nat, o ≠ p.lot → t.account o = s.account o)
        ∧ (s.diverter.state = .atReturn → a.returned + m ≤ 4000000000 →
          t.account p.lot = { a with inTransit := a.inTransit - m, returned := a.returned + m })
        ∧ (s.diverter.state = .moving ∨ s.diverter.state = .unknown
            ∨ (∃ l : Loader, s.diverter.state = atLoader l ∧ (s.loader l).state ≠ .lowered) →
          a.spill + m ≤ 4000000000 →
          t.account p.lot = { a with inTransit := a.inTransit - m, spill := a.spill + m }
            ∧ t.tells (.spill (match p.lot with
              | some n => n
              | none => 0)))
        ∧ (∀ (l : Loader) (k : Key) (v w : Nat), s.diverter.state = atLoader l → (s.loader l).state = .lowered →
          s.pinKey? l = some k → 1 ≤ k.hold → a.delivered[k.hold - 1]? = some v → a.offPlan[k.hold - 1]? = some w →
          v + m ≤ 4000000000 → w + m ≤ 4000000000 →
          (∀ (i : Nat) (st : StepRecord), p.tag = some i → s.step? i = some st → st.loader = l → st.hold = k.hold →
            t.account p.lot =
                { a with inTransit := a.inTransit - m, delivered := a.delivered.set (k.hold - 1) (v + m) }
              ∧ (t.step? i).map (·.delivered) = some (st.delivered + m))
            ∧ ((∀ (i : Nat) (st : StepRecord), p.tag = some i → s.step? i = some st →
                st.loader ≠ l ∨ st.hold ≠ k.hold) →
              t.account p.lot =
                  { a with
                    inTransit := a.inTransit - m
                    delivered := a.delivered.set (k.hold - 1) (v + m)
                    offPlan := a.offPlan.set (k.hold - 1) (w + m) }
                ∧ t.tells (.offPlan k.hold)))
        ∧ s.keepsNotifying t [.weigh, .book, .plan, .gate])
      ∧ ((∀ q ∈ s.weigh.queue, (pos - q.launch).toNat < s.weigh.config.transit) →
        (∀ q : Parcel, s.weigh.openParcel = some q → s.weigh.config.length ≤ (pos - q.launch).toNat →
          s.weigh.queue.length < 512 → (∀ r ∈ s.book.lots, r.state ≠ .closing) →
          ∃ t : State, exec .beltAdvance s = .next t ∧ t.weigh.position = pos ∧ t.weigh.queue = s.weigh.queue ++ [q]
            ∧ t.weigh.openParcel = none ∧ t.book = s.book ∧ s.keepsNotifying t [.weigh, .plan, .gate])
          ∧ ((∀ q : Parcel, s.weigh.openParcel = some q → (pos - q.launch).toNat < s.weigh.config.length) →
            (s.plan.runOut = none → s.gate.demand = s.demandNow →
              exec .beltAdvance s = .next (s.withWeigh { s.weigh with position := pos }))
              ∧ ∀ (r : RunOut) (mark : Word) (st : StepRecord), s.plan.runOut = some r → r.mark = some mark →
                s.weigh.config.runOut ≤ (pos - mark).toNat → (∀ p ∈ s.weigh.queue, p.tag ≠ some r.step) →
                (∀ p : Parcel, s.weigh.openParcel = some p → p.tag ≠ some r.step) → s.step? r.step = some st →
                st.state = .cutoff →
                ∃ t : State, exec .beltAdvance s = .next t ∧ t.weigh.position = pos
                  ∧ t.step? r.step = some { st with state := .done, endCause := some r.cause }
                  ∧ t.plan.runOut = none ∧ t.plan.tag = (if s.plan.tag = some r.step then none else s.plan.tag)
                  ∧ ((∀ r ∈ s.book.lots, r.state ≠ .closing) → t.book = s.book)
                  ∧ s.keepsNotifying t [.weigh, .plan, .gate, .book]))

/-- Every parcel due at a belt advance leaves, oldest first, whatever lots are in CLOSING: the queue keeps the others, and each
record's in-transit mass gives up the mass of its due parcels to Return, to Spill, or to the pinned hold's delivered value by
the diverter and the loader there, the off-plan value taking those that are not for their step. A lot in CLOSING whose last
parcels so leave, with no step of it still running or running out, is CLOSED with its closing record and its residue
forfeited (R98, R99, R100, R114, R115). -/
def Obligations.DischargesInOrder : Prop :=
  ∀ (s : State) (pos : Word) (due rest : List Parcel), s.mainSupply = true →
    pos = s.weigh.position + BitVec.ofNat 32 s.weigh.config.pitch → s.weigh.queue = due ++ rest → due ≠ [] →
    s.weigh.queue.length ≤ 512 → (∀ p ∈ due, s.weigh.config.transit ≤ (pos - p.launch).toNat) →
    (∀ p : Parcel, rest.head? = some p → (pos - p.launch).toNat < s.weigh.config.transit) →
    (s.plan.steps.map (·.id)).Nodup → (∀ p ∈ due, ∀ n : Nat, p.lot = some n → (s.lot? n).isSome = true) →
    (∀ o : Option Nat, massOf due o ≤ (s.account o).inTransit ∧ (s.account o).inTransit ≤ 4000000000) →
    ∃ t : State, exec .beltAdvance s = .next t ∧ t.weigh.position = pos
      ∧ t.weigh.queue =
        rest ++ (s.weigh.openParcel.filter fun q => decide (s.weigh.config.length ≤ (pos - q.launch).toNat)).toList
      ∧ t.weigh.openParcel = s.weigh.openParcel.filter (fun q => decide ((pos - q.launch).toNat < s.weigh.config.length))
      ∧ (∀ (o : Option Nat) (a : Account) (m : Nat), a = s.account o → m = massOf due o →
        (s.diverter.state = .atReturn → a.returned + m ≤ 4000000000 →
          t.account o =
            { a with inTransit := a.inTransit - m, returned := a.returned + m, residue := (t.account o).residue })
          ∧ (s.diverter.state = .moving ∨ s.diverter.state = .unknown
              ∨ (∃ l : Loader, s.diverter.state = atLoader l ∧ (s.loader l).state ≠ .lowered) →
            a.spill + m ≤ 4000000000 →
            t.account o = { a with inTransit := a.inTransit - m, spill := a.spill + m, residue := (t.account o).residue })
          ∧ ∀ (l : Loader) (k : Key) (v w off : Nat), s.diverter.state = atLoader l → (s.loader l).state = .lowered →
            s.pinKey? l = some k → 1 ≤ k.hold → a.delivered[k.hold - 1]? = some v → a.offPlan[k.hold - 1]? = some w →
            off = massOf (due.filter fun p => !s.forStep l k.hold p) o → v + m ≤ 4000000000 → w + off ≤ 4000000000 →
            t.account o =
              { a with
                inTransit := a.inTransit - m
                delivered := a.delivered.set (k.hold - 1) (v + m)
                offPlan := a.offPlan.set (k.hold - 1) (w + off)
                residue := (t.account o).residue })
      ∧ (∀ (n : Nat) (r : LotRecord), 1 ≤ n → n ≤ 8 → s.lot? n = some r → r.state = .closing →
        (∀ st ∈ s.plan.steps, st.lot = n → st.isLive = false) → massOf due (some n) = r.account.inTransit →
        (∀ p ∈ rest, p.lot ≠ some n) → (∀ p : Parcel, s.weigh.openParcel = some p → p.lot ≠ some n) →
        ∃ (q : LotRecord) (c : ClosingRecord), t.lot? n = some q ∧ q.state = .closed ∧ q.account.residue = 0
          ∧ q.closing = some c ∧ c.forfeited = r.account.residue ∧ c.weighed = r.account.weighed
          ∧ c.returned = q.account.returned ∧ c.spill = q.account.spill ∧ c.delivered = q.account.delivered)
      ∧ s.keepsNotifying t [.weigh, .book, .plan, .gate]

/-- The closing of the open parcel by length, and the queue condition. With room it is appended; the 480th parcel begins the
QUEUE reason, which suspends a running step, and the discharge that brings the count below 480 ends it. With 512 parcels
queued it is merged into the newest of the same tag and lot, and otherwise its mass goes to Unresolved with EQUIPMENT_FAULT
QUEUE (R93, R95, R96, R97). -/
def Obligations.ParcelsClose : Prop :=
  ∀ (s : State) (pos : Word), s.mainSupply = true → pos = s.weigh.position + BitVec.ofNat 32 s.weigh.config.pitch →
    (∀ q : Parcel, (∀ p ∈ s.weigh.queue, (pos - p.launch).toNat < s.weigh.config.transit) → s.weigh.openParcel = some q →
      s.weigh.config.length ≤ (pos - q.launch).toNat →
      (s.weigh.queue.length < 512 →
        ∃ t : State, exec .beltAdvance s = .next t ∧ t.weigh.queue = s.weigh.queue ++ [q] ∧ t.weigh.openParcel = none
          ∧ (s.closingsSettled = true → s.plan.runOut = none → t.book = s.book)
          ∧ (s.weigh.queue.length = 479 → ∀ st ∈ s.plan.steps, s.planSound → st.isRunning = true →
            t.step? st.id = some { st with state := .suspended, suspension := { st.suspension with queue := true } })
          ∧ (s.weigh.queue.length ≠ 479 → s.plan.runOut = none → t.plan = s.plan))
        ∧ ∀ (front : List Parcel) (r : Parcel), s.weigh.queue = front ++ [r] → 512 ≤ s.weigh.queue.length →
          (r.tag = q.tag → r.lot = q.lot →
            ∃ t : State, exec .beltAdvance s = .next t ∧ t.weigh.queue = front ++ [{ r with mass := r.mass + q.mass }]
              ∧ t.weigh.openParcel = none ∧ (s.closingsSettled = true → s.plan.runOut = none → t.book = s.book)
              ∧ s.keepsNotifying t [.weigh, .book, .plan, .gate])
            ∧ ∀ a : Account, a = s.account q.lot → r.tag ≠ q.tag ∨ r.lot ≠ q.lot → s.noticesShaped →
              (∀ n : Nat, q.lot = some n → (s.lot? n).isSome = true) → q.mass ≤ a.inTransit → a.inTransit ≤ 4000000000 →
              a.unresolved + q.mass ≤ 4000000000 →
              ∃ t : State, exec .beltAdvance s = .next t ∧ t.weigh.queue = s.weigh.queue ∧ t.weigh.openParcel = none
                ∧ t.account q.lot =
                  { a with
                    inTransit := a.inTransit - q.mass
                    unresolved := a.unresolved + q.mass
                    residue := (t.account q.lot).residue }
                ∧ (∀ o : Option Nat, o ≠ q.lot →
                  t.account o = { s.account o with residue := (t.account o).residue })
                ∧ t.tells (.equipmentFault .queue) ∧ s.keepsNotifying t [.weigh, .book, .plan, .gate])
      ∧ ∀ (p : Parcel) (rest : List Parcel), s.weigh.queue = p :: rest → rest.length = 479 → 0 < s.weigh.config.runOut →
        s.weigh.config.transit ≤ (pos - p.launch).toNat → (∀ q ∈ rest, (pos - q.launch).toNat < s.weigh.config.transit) →
        (∀ q : Parcel, s.weigh.openParcel = some q → (pos - q.launch).toNat < s.weigh.config.length) →
        ∃ t : State, exec .beltAdvance s = .next t ∧ t.weigh.queue = rest
          ∧ ∀ st ∈ s.plan.steps, s.planSound → st.isRunning = true →
            ∃ u : StepRecord, t.step? st.id = some u ∧ u.suspension.queue = false ∧ (u.state = st.state ∨ u.state = .cutoff)

/-- METROLOGY_LOCK with the lock flag clear sets it and is answered DONE, whatever the lots, the plan and the belt; with the
flag set it is refused with LOCKED and raises no event; retained clear clears the flag with the metrology defaults. -/
def Obligations.MetrologyLocks : Prop :=
  ∀ (tag : Byte) (raw : Half) (strap : Bool) (s : State),
    (s.takes .survey →
      exec (.metrologyLock tag) s = .next
        (if s.weigh.metrology.locked = false then
          (s.withWeigh { s.weigh with metrology := { s.weigh.metrology with locked := true } }).answered .survey tag .done
            .empty
        else s.answered .survey tag .locked .empty))
      ∧ (s.mainSupply = true →
        ∃ t : State, exec (.retainedClear raw strap) s = .next t ∧ t.weigh.metrology = ⟨10, 1000000, false⟩)
      ∧ (s.bankHeld = false → ∃ t : State, exec (.powerOn raw strap) s = .next t ∧ t.weigh.metrology = ⟨10, 1000000, false⟩)

/-! ### The Bill Book -/

/-- LOT_OPEN of a FREE lot in range makes it OPEN with the reference and the order given and every account at 0; LOT_CLOSE
of an OPEN lot makes it CLOSED with its closing record and its residue forfeited when the closing conditions hold, and
CLOSING with the pending flag otherwise. Each raises LOT_STATE, and both are refused with RANGE for a lot outside 1..8,
LOT_OPEN also for a reference or an order outside its range, and with STATE in the other lot states. BOOK_CLEAR with every
lot FREE or CLOSED and an empty belt frees every CLOSED lot, zeroes the unassigned record, leaves the other lots, and
answers the number of lots freed; LOT_STATE stands with the last of them in lot order as its detail (the order: the model's
choice, log 7); otherwise it is refused with STATE (R112 to R115, R118). -/
def Obligations.LotsChange : Prop :=
  (∀ (tag : Byte) (n : Nat) (s : State), s.takes .survey →
      (∀ (ref : List Nat) (ord : Option Nat),
        n = 0 ∨ 8 < n ∨ ref = [] ∨ 16 < ref.length ∨ (∃ c ∈ ref, c < 32 ∨ 126 < c) ∨ ord = some 0
            ∨ (∃ o : Nat, ord = some o ∧ 50000000 < o) →
        exec (.lotOpen tag n ref ord) s = .next (s.answered .survey tag .range .empty))
        ∧ (n = 0 ∨ 8 < n → exec (.lotClose tag n) s = .next (s.answered .survey tag .range .empty)))
    ∧ (∀ (tag : Byte) (n : Nat) (r : LotRecord) (s : State), s.takes .survey → s.noticesShaped → 1 ≤ n → n ≤ 8 →
      s.lot? n = some r →
      (∀ (ref : List Nat) (ord : Option Nat), 1 ≤ ref.length → ref.length ≤ 16 → (∀ c ∈ ref, 32 ≤ c ∧ c ≤ 126) →
        (∀ o : Nat, ord = some o → 1 ≤ o ∧ o ≤ 50000000) →
        (r.state ≠ .free → exec (.lotOpen tag n ref ord) s = .next (s.answered .survey tag .state .empty))
          ∧ (r.state = .free →
            ∃ t : State, exec (.lotOpen tag n ref ord) s = .next t
              ∧ t.book = { s.book with lots := s.book.lots.set (n - 1) ⟨.opened, some ref, ord, Account.zero, none⟩ }
              ∧ t.tells (.lotState n) ∧ s.served t .survey tag .done .empty ∧ s.keepsNotifying t [.book]))
        ∧ (r.state ≠ .opened → exec (.lotClose tag n) s = .next (s.answered .survey tag .state .empty))
        ∧ (r.state = .opened → s.lotQuiet n r →
          ∃ t : State, exec (.lotClose tag n) s = .next t
            ∧ t.book =
              { s.book with
                lots := s.book.lots.set (n - 1)
                  { r with
                    state := .closed
                    account := { r.account with residue := 0 }
                    closing := some
                      ⟨r.account.weighed, r.account.delivered.sum, r.account.delivered, r.account.offPlan,
                        r.account.returned, r.account.spill, r.account.unresolved, r.account.residue,
                        s.weigh.metrology.quantum, s.weigh.metrology.span⟩ } }
            ∧ t.tells (.lotState n) ∧ s.served t .survey tag .done (.closePending false) ∧ s.keepsNotifying t [.book])
        ∧ (r.state = .opened → ¬ s.lotQuiet n r →
          ∃ t : State, exec (.lotClose tag n) s = .next t
            ∧ t.book = { s.book with lots := s.book.lots.set (n - 1) { r with state := .closing } }
            ∧ t.tells (.lotState n) ∧ s.served t .survey tag .done (.closePending true) ∧ s.keepsNotifying t [.book]))
    ∧ ∀ (tag : Byte) (s : State), s.takes .survey →
        ((∃ r ∈ s.book.lots, r.state = .opened ∨ r.state = .closing) ∨ s.weigh.queue ≠ [] ∨ s.weigh.openParcel ≠ none →
          exec (.bookClear tag) s = .next (s.answered .survey tag .state .empty))
          ∧ (s.book.lots.length = 8 → (∀ r ∈ s.book.lots, r.state = .free ∨ r.state = .closed) → s.weigh.queue = [] →
            s.weigh.openParcel = none →
            ∃ t : State, exec (.bookClear tag) s = .next t
              ∧ t.book =
                { s.book with
                  lots := s.book.lots.map fun r =>
                    if r.state = .closed then ⟨.free, none, none, Account.zero, none⟩ else r
                  unassigned := Account.zero }
              ∧ (∀ n : Nat, s.noticesShaped → (∃ r : LotRecord, s.lot? n = some r ∧ r.state = .closed) →
                (∀ (m : Nat) (r : LotRecord), n < m → s.lot? m = some r → r.state ≠ .closed) → t.tells (.lotState n))
              ∧ s.served t .survey tag .done (.count (s.book.lots.countP fun r => r.state == .closed))
              ∧ s.keepsNotifying t [.book])

/-! ### Dust, lines and drive ports -/

/-- DUST_RESET of a zone in LOCKOUT with both conditions deasserted enters PURGE with the timer loaded from the latch, and
is refused with STATE otherwise, and with RANGE for a zone outside the three; a purge expiry leads to WARN or to CLEAR by
the warn condition, with its event, and where that ends the running step's dust STOP, DUST leaves its set and its state
stands, while a STOP kept by the other zone, or a zone that the step does not read, leaves the step as it is; the expiry of
history times removes those older than 1,800 s and keeps the others (R126, R128, R130, R131, R133; that the purge's row acts
whenever the timer runs: the model's choice, log 5; that the history's row goes by the time base: log 26). -/
def Obligations.DustZones : Prop :=
  (∀ (tag : Byte) (n : Nat) (s : State), s.takes .terminal → 2 < n →
    exec (.dustReset tag n) s = .next (s.answered .terminal tag .range .empty))
    ∧ ∀ (tag : Byte) (n : Nat) (z : Zone) (s : State), zoneOf n = some z →
      (s.takes .terminal →
        ((s.dust.get z).state ≠ .lockout ∨ s.warns z = true ∨ s.alarms z = true →
          exec (.dustReset tag n) s = .next (s.answered .terminal tag .state .empty))
          ∧ ((s.dust.get z).state = .lockout → s.warns z = false → s.alarms z = false →
            ∃ t : State, exec (.dustReset tag n) s = .next t
              ∧ t.dust.get z =
                { s.dust.get z with state := .purge, timer := some ((s.dust.get z).latch * 1000) }
              ∧ s.served t .terminal tag .done .empty
              ∧ (s.marked → t.plan = s.plan ∧ t.weigh = s.weigh ∧ t.book = s.book)
              ∧ s.keepsNotifying t [.zone z, .plan, .gate, .weigh, .book]
              ∧ (s.still → s.keeps t [.zone z, .link .terminal])))
        ∧ (s.mainSupply = true → s.noticesShaped →
          ((s.dust.get z).state = .purge → (s.dust.get z).timer.isSome = true →
            ∃ t : State, exec (.purgeTimerExpiry z) s = .next t
              ∧ t.dust.get z =
                { s.dust.get z with state := if s.warns z = true then .warn else .clear, timer := none }
              ∧ t.tells (if s.warns z = true then .dustWarn z else .dustClear z)
              ∧ (∀ st ∈ s.plan.steps, s.planSound → st.isRunning = true →
                (loaderZone st.loader = z ∧ s.restriction .z3 ≠ .stop
                    ∨ z = .z3 ∧ s.restriction (loaderZone st.loader) ≠ .stop →
                  t.step? st.id = some { st with suspension := { st.suspension with dust := false } })
                  ∧ (z ≠ .z3 ∧ (loaderZone st.loader ≠ z ∨ s.restriction .z3 = .stop)
                      ∨ z = .z3 ∧ s.restriction (loaderZone st.loader) = .stop →
                    t.step? st.id = some st))
              ∧ t.gate.demand = t.demandNow
              ∧ s.noticedOnly t ∧ s.keepsNotifying t [.zone z, .plan, .gate, .weigh, .book])
            ∧ ((s.dust.get z).state ≠ .purge → exec (.purgeTimerExpiry z) s = .next s)
            ∧ exec (.alarmHistoryExpiry z) s = .next
              (s.withZone z
                { s.dust.get z with
                  history := (s.dust.get z).history.filter fun r => decide ((s.timeBase - r).toNat ≤ 1800000) }))

/-- The three requests of the Field Unit and the sampling of a line. LINE_CONFIG stores the settings, keeps the filtered
level, restarts the run count when the exponent changes and forms the condition again; LINE_LOCK sets the lock; LINE_ACK
deasserts an edge line's condition and tells whether it was asserted. A line outside 0..15 is RANGE, and so are a mode
outside the five and an exponent above 7. A line is sampled only at a reading that is a multiple of 2^n ms, and once at a
reading: a sample at the filtered level clears the run count, one of the other level counts up to the third, which changes
the filtered level and forms the condition by the mode; at any other moment only the raw level changes (R139, R140, R142 to
R144; that the third sample does what CONDITION_CHANGE does, and that a LINE_SAMPLE at another moment changes the raw level:
the model's form, logs 13 and 32). -/
def Obligations.LineRequests : Prop :=
  (∀ (tag : Byte) (i n e : Nat) (on : Bool) (s : State), s.takes .terminal →
    (s.lines.locked = false → 15 < i ∨ 4 < n ∨ 7 < e →
      exec (.lineConfig tag i n on e) s = .next (s.answered .terminal tag .range .empty))
      ∧ (15 < i → exec (.lineAck tag i) s = .next (s.answered .terminal tag .range .empty)))
    ∧ ∀ (tag : Byte) (i : Fin 16) (r : LineRecord) (s : State), s.lines.records[i.val]? = some r →
      (s.takes .terminal →
        exec (.lineLock tag) s = .next
            (if s.lines.locked = true then s.answered .terminal tag .locked .empty
            else (s.withLines { s.lines with locked := true }).answered .terminal tag .done .empty)
          ∧ (∀ (n e : Nat) (on : Bool), s.lines.locked = true →
            exec (.lineConfig tag i.val n on e) s = .next (s.answered .terminal tag .locked .empty))
          ∧ (∀ (n e : Nat) (m : LineMode) (on c : Bool), s.lines.locked = false → modeOf n = some m → e ≤ 7 →
            c = (on && (match m with
              | .high => r.filtered
              | .low => !r.filtered
              | _ => (r.mode == .rising || r.mode == .falling || r.mode == .both) && r.condition)) →
            ∃ t : State, exec (.lineConfig tag i.val n on e) s = .next t
              ∧ t.lines =
                { s.lines with
                  records := s.lines.records.set i.val
                    ⟨m, on, e, r.filtered, if e = r.exponent then r.runCount else 0, c⟩ }
              ∧ s.served t .terminal tag .done (.line ⟨m, on, e, r.filtered, c⟩)
              ∧ s.same t .hatch ∧ s.same t .cache ∧ s.same t .clock
              ∧ (c = r.condition → s.keeps t [.lines, .link .terminal]))
          ∧ (r.mode = .high ∨ r.mode = .low → exec (.lineAck tag i.val) s = .next (s.answered .terminal tag .state .empty))
          ∧ (r.mode ≠ .high → r.mode ≠ .low →
            ∃ t : State, exec (.lineAck tag i.val) s = .next t
              ∧ t.lines = { s.lines with records := s.lines.records.set i.val { r with condition := false } }
              ∧ s.served t .terminal tag .done (.wasAsserted r.condition)
              ∧ s.same t .hatch ∧ s.same t .cache ∧ s.same t .clock
              ∧ (r.condition = false → s.keeps t [.lines, .link .terminal])))
        ∧ (s.mainSupply = true → ∀ high : Bool,
          (s.timeBase.toNat % 2 ^ r.exponent ≠ 0 ∨ s.lines.sampled[i.val]? = some true →
            exec (.lineSample i high) s = .next (s.withLines { s.lines with raw := s.lines.raw.set i.val high }))
            ∧ (s.timeBase.toNat % 2 ^ r.exponent = 0 → s.lines.sampled[i.val]? = some false →
              (high = r.filtered ∨ r.runCount < 2 →
                exec (.lineSample i high) s = .next
                  (s.withLines
                    { s.lines with
                      records := s.lines.records.set i.val
                        { r with runCount := if high = r.filtered then 0 else r.runCount + 1 }
                      raw := s.lines.raw.set i.val high
                      sampled := s.lines.sampled.set i.val true }))
                ∧ (high ≠ r.filtered → 2 ≤ r.runCount →
                  exec (.lineSample i high) s = exec (.conditionChange i high) s))
            ∧ (high = r.filtered → exec (.conditionChange i high) s = .next s)
            ∧ ∀ c : Bool, high ≠ r.filtered →
              c = (r.enabled && (match r.mode with
                | .high => high
                | .low => !high
                | .rising => r.condition || high
                | .falling => r.condition || !high
                | .both => true)) →
              ∃ t : State, exec (.conditionChange i high) s = .next t
                ∧ t.lines =
                  { s.lines with
                    records := s.lines.records.set i.val { r with filtered := high, runCount := 0, condition := c }
                    raw := s.lines.raw.set i.val high
                    sampled := s.lines.sampled.set i.val true }
                ∧ s.same t .hatch ∧ s.same t .cache ∧ s.same t .clock
                ∧ (c = r.condition → s.keeps t [.lines]))

/-- What a change of a condition of lines 0, 1, 4, 5 and 13 to 15 does to the blocks that read it, in every mode of the
line. The emergency stop faults the loaders in motion and suspends the running step, and its end removes ESTOP and leaves
the loaders; a spout-down and a spout-up condition end LOWERING and RAISING, and do nothing else but that a loader LOWERED
at the running step's pin with the diverter there removes LOADER and leaves the step's state; the gate-closed condition ends
CLOSING and may set a run-out mark, its loss in CLOSED begins CLOSING again, and in OPEN and FAULT it does not touch the
gate; a loss of the belt under an open demand adds BELT, and its return removes it (R19, R24, R59, R60, R63, R66, R73, R74,
R76, R77, R141; that the alignment count stands at an entry to FAULT: log 30). -/
def Obligations.ConditionsActed : Prop :=
  ∀ (high : Bool) (s : State),
    (s.mayRise 14 high →
      ∃ t : State, exec (.conditionChange 14 high) s = .next t ∧ t.estop = true ∧ t.gate.demand = .closed
        ∧ (∀ l : Loader, (s.loader l).state = .travel ∨ (s.loader l).state = .lowering ∨ (s.loader l).state = .raising →
          t.loader l = faultedAs (s.loader l) .estop ∧ t.port l = portAfter (s.port l) .stop)
        ∧ (∀ l : Loader, (s.loader l).state ≠ .travel → (s.loader l).state ≠ .lowering → (s.loader l).state ≠ .raising →
          t.loader l = s.loader l ∧ t.port l = s.port l)
        ∧ (∀ st ∈ s.plan.steps, s.planSound → st.isRunning = true →
          ∃ u : StepRecord, t.step? st.id = some u ∧ u.state = .suspended ∧ u.suspension.estop = true)
        ∧ s.noticedOnly t
        ∧ s.keepsNotifying t [.lines, .loader .l1, .loader .l2, .port .l1, .port .l2, .plan, .gate, .weigh, .book])
      ∧ (s.mayFall 14 high →
        ∃ t : State, exec (.conditionChange 14 high) s = .next t ∧ t.estop = false ∧ t.gate.demand = t.demandNow
          ∧ (∀ st ∈ s.plan.steps, s.planSound → st.isRunning = true →
            t.step? st.id = some { st with suspension := { st.suspension with estop := false } })
          ∧ s.noticedOnly t ∧ s.keepsNotifying t [.lines, .plan, .gate, .weigh, .book])
      ∧ (∀ (l : Loader) (i : Fin 16),
        (i.val = spoutDownLine l → s.mayRise i high → (s.loader l).state = .lowering →
          ∃ t : State, exec (.conditionChange i high) s = .next t
            ∧ t.loader l = { s.loader l with state := .lowered, spoutTimer := none }
            ∧ (∀ st ∈ s.plan.steps, s.planSound → st.isRunning = true →
              t.step? st.id = some
                (if st.loader = l ∧ s.pinKey? l = some ⟨st.hold, st.point⟩ ∧ s.diverter.state = atLoader l then st.reloaded
                else st))
            ∧ t.gate.demand = t.demandNow
            ∧ s.keepsNotifying t [.lines, .loader l, .plan, .gate, .weigh, .book])
          ∧ (i.val = spoutUpLine l → s.mayRise i high → (s.loader l).state = .raising →
            ∃ t : State, exec (.conditionChange i high) s = .next t
              ∧ t.loader l = { s.loader l with state := .aligned, spoutTimer := none }
              ∧ (s.marked → t.plan = s.plan ∧ t.weigh = s.weigh ∧ t.book = s.book)
              ∧ s.keepsNotifying t [.lines, .loader l, .plan, .gate, .weigh, .book])
          ∧ (i.val = spoutDownLine l ∧ (s.mayRise i high ∧ (s.loader l).state ≠ .lowering ∨ s.mayFall i high)
              ∨ i.val = spoutUpLine l ∧ (s.mayRise i high ∧ (s.loader l).state ≠ .raising ∨ s.mayFall i high) →
            ∃ t : State, exec (.conditionChange i high) s = .next t ∧ s.keeps t [.lines]))
      ∧ (s.mayRise 15 high → s.gate.state = .closing → s.gate.demand = .closed →
        (∀ st ∈ s.plan.steps, st.isRunning = false) →
        ∃ t : State, exec (.conditionChange 15 high) s = .next t ∧ t.gate.state = .closed ∧ t.gate.timer = none
          ∧ (∀ r : RunOut, s.plan.runOut = some r → r.mark = none → 0 < s.weigh.config.runOut →
            t.plan.runOut = some { r with mark := some s.weigh.position })
          ∧ s.keepsNotifying t [.lines, .plan, .gate, .weigh, .book])
      ∧ (s.mayFall 15 high → s.gate.state = .closed → s.gate.demand = .closed →
        ∃ t : State, exec (.conditionChange 15 high) s = .next t
          ∧ t.gate = { s.gate with state := .closing, timer := some 10000 } ∧ s.keeps t [.lines, .gate])
      ∧ (s.mayRise 15 high ∨ s.mayFall 15 high → s.gate.state = .opened ∨ s.gate.state = .fault →
        0 < s.weigh.config.runOut → s.demandSound →
        ∃ t : State, exec (.conditionChange 15 high) s = .next t ∧ t.gate = s.gate
          ∧ s.keepsNotifying t [.lines, .plan, .gate, .weigh, .book])
      ∧ (s.mayFall 13 high →
        ∃ t : State, exec (.conditionChange 13 high) s = .next t ∧ t.gate.demand = .closed
          ∧ (s.gate.demand ≠ .closed → ∀ st ∈ s.plan.steps, s.planSound → st.state = .feeding →
            t.step? st.id = some { st with state := .suspended, suspension := { st.suspension with belt := true } })
          ∧ (s.gate.demand = .closed → s.marked → t.plan = s.plan)
          ∧ s.keepsNotifying t [.lines, .plan, .gate, .weigh, .book])
      ∧ (s.mayRise 13 high →
        ∃ t : State, exec (.conditionChange 13 high) s = .next t ∧ t.gate.demand = t.demandNow
          ∧ (∀ st ∈ s.plan.steps, s.planSound → st.isRunning = true →
            t.step? st.id = some { st with suspension := { st.suspension with belt := false } })
          ∧ s.noticedOnly t ∧ s.keepsNotifying t [.lines, .plan, .gate, .weigh, .book])

/-- What a change of a zone's warn or alarm condition does, in every mode of the line. An alarm makes a zone in CLEAR, WARN or
PURGE ALARM, or LOCKOUT as the third in its history, faults a loader travelling under it and suspends with DUST a running
step that it now stops; a warn takes CLEAR to WARN; the loss of the warn takes WARN to CLEAR; the loss of the last of the two
takes ALARM to PURGE with the latch; every other change leaves the zone and the rest of the part as they were (R63, R125 to
R128, R130 to R134, R141; that the alignment count stands at an entry to FAULT: log 30). -/
def Obligations.DustConditionsActed : Prop :=
  ∀ (z : Zone) (i j : Fin 16) (high : Bool) (s : State), i.val = warnLine z → j.val = alarmLine z → s.noticesShaped →
    (s.mayRise j high → (s.dust.get z).state ≠ .alarm → (s.dust.get z).state ≠ .lockout →
        (s.dust.get z).history.length ≤ 2 →
        ∃ t : State, exec (.conditionChange j high) s = .next t ∧ t.tells (.dustAlarm z)
          ∧ ((s.dust.get z).history.length ≤ 1 →
            t.dust.get z =
              ⟨.alarm, none, (s.dust.get z).latch, (s.dust.get z).history ++ [s.timeBase]⟩)
          ∧ ((s.dust.get z).history.length = 2 →
            t.dust.get z = ⟨.lockout, none, (s.dust.get z).latch, []⟩ ∧ t.tells (.dustLockout z))
          ∧ (∀ y : Zone, y ≠ z → t.dust.get y = s.dust.get y)
          ∧ (∀ l : Loader, loaderZone l = z → (s.loader l).state = .travel → s.restriction z ≠ .stop →
            t.loader l = faultedAs (s.loader l) .dust)
          ∧ (∀ st ∈ s.plan.steps, s.planSound → st.isRunning = true → loaderZone st.loader = z ∨ z = .z3 →
            s.dustOf st.loader ≠ .stop →
            ∃ u : StepRecord, t.step? st.id = some u ∧ u.state = .suspended ∧ u.suspension.dust = true)
          ∧ t.hatch = s.hatch ∧ t.cache = s.cache ∧ t.diverter = s.diverter ∧ s.noticedOnly t)
      ∧ (s.mayRise j high → (s.dust.get z).state = .alarm ∨ (s.dust.get z).state = .lockout →
        ∃ t : State, exec (.conditionChange j high) s = .next t ∧ s.keeps t [.lines])
      ∧ (s.mayFall j high → (s.dust.get z).state ≠ .alarm ∨ s.warns z = true →
        ∃ t : State, exec (.conditionChange j high) s = .next t ∧ s.keeps t [.lines])
      ∧ (s.mayRise i high → (s.dust.get z).state = .clear →
        ∃ t : State, exec (.conditionChange i high) s = .next t
          ∧ t.dust.get z = { s.dust.get z with state := .warn, timer := none } ∧ t.tells (.dustWarn z)
          ∧ s.noticedOnly t ∧ s.keepsNotifying t [.lines, .zone z, .plan, .gate, .weigh, .book])
      ∧ (s.mayRise i high → (s.dust.get z).state ≠ .clear →
        ∃ t : State, exec (.conditionChange i high) s = .next t ∧ s.keeps t [.lines])
      ∧ (s.mayFall i high → (s.dust.get z).state = .warn → s.alarms z = false →
        ∃ t : State, exec (.conditionChange i high) s = .next t
          ∧ t.dust.get z = { s.dust.get z with state := .clear, timer := none } ∧ t.tells (.dustClear z)
          ∧ s.noticedOnly t ∧ s.keepsNotifying t [.lines, .zone z, .plan, .gate, .weigh, .book])
      ∧ (s.mayFall i high →
        (s.dust.get z).state = .clear ∨ (s.dust.get z).state = .purge ∨ (s.dust.get z).state = .lockout ∨ s.alarms z = true →
        ∃ t : State, exec (.conditionChange i high) s = .next t ∧ s.keeps t [.lines])
      ∧ ∀ n : Fin 16, n = i ∧ s.alarms z = false ∨ n = j ∧ s.warns z = false → s.mayFall n high →
        (s.dust.get z).state = .alarm →
        ∃ t : State, exec (.conditionChange n high) s = .next t
          ∧ t.dust.get z = { s.dust.get z with state := .purge, timer := some ((s.dust.get z).latch * 1000) }
          ∧ s.noticedOnly t ∧ s.keepsNotifying t [.lines, .zone z, .plan, .gate, .weigh, .book]

/-- The drive ports. The bytes of a good frame, taken by a hunting receiver, are the position report they spell; nine bytes
that spell none and hold no sync byte send the receiver hunting; a frame cut off by time or by a framing error is scanned
for the next sync byte, and an inner frame found there goes on without the errored byte. A frame sent lets the head order go
with the counter's number, the counter advancing modulo 2^16, and nothing else changes (R146, R147, R148; the operands of
the receiver's commands and what becomes of the errored byte are the model's choice, log 12). -/
def Obligations.DrivePorts : Prop :=
  ∀ (l : Loader) (s : State), s.mainSupply = true →
    (∀ (st : DriveStatus) (x y : Nat) (body : List Byte), x < 4294967296 → y < 65536 → (s.port l).receiver = .hunting →
      body = u8 (driveStatusNumber st) ++ u32 x ++ u16 y →
      exec (.driveFrameDiscarded l ([0x3C#8] ++ body ++ halfBytes (crc16 body))) s = exec (.positionReport l st x y) s)
      ∧ ((s.port l).receiver = .hunting →
        exec (.syncByteReceived l) s = .next (s.withPort l { s.port l with receiver := .collecting [] })
          ∧ exec (.driveFrameTimeout l) s = .next s ∧ exec (.driveFramingError l) s = .next s)
      ∧ (∀ bytes : List Byte, (s.port l).receiver = .collecting [] → bytes.length = 9 → readReport bytes = none →
        0x3C#8 ∉ bytes →
        exec (.driveFrameDiscarded l bytes) s = .next (s.withPort l { s.port l with receiver := .hunting }))
      ∧ (∀ gathered : List Byte, (s.port l).receiver = .collecting gathered →
        (0x3C#8 ∉ gathered →
          exec (.driveFrameTimeout l) s = .next (s.withPort l { s.port l with receiver := .hunting })
            ∧ exec (.driveFramingError l) s = .next (s.withPort l { s.port l with receiver := .hunting }))
          ∧ ∀ a b : List Byte, gathered = a ++ 0x3C#8 :: b → 0x3C#8 ∉ a →
            exec (.driveFrameTimeout l) s = .next (s.withPort l { s.port l with receiver := .collecting b })
              ∧ exec (.driveFramingError l) s = .next (s.withPort l { s.port l with receiver := .collecting b }))
      ∧ ((s.port l).sending = none → exec (.orderFrameSent l) s = .next s)
      ∧ ((s.port l).sending.isSome = true → (s.port l).orders = [] →
        exec (.orderFrameSent l) s = .next (s.withPort l { s.port l with sending := none }))
      ∧ ∀ (o : Order) (rest : List Order), (s.port l).sending.isSome = true → (s.port l).orders = o :: rest →
        exec (.orderFrameSent l) s = .next
          (s.withPort l
            { s.port l with orders := rest, counter := (s.port l).counter + 1, sending := some ((s.port l).counter, o) })

/-- The placing of a travel order. On an idle port it is numbered and sent at once; behind a frame being sent it joins the tail
of the queue, a fifth order removing the oldest unsent, and a STOP removes every waiting order; no other part changes. After a
STOP command the STOP is the very next order sent, with the counter's number, whatever waited before (R57, R148). -/
def Obligations.OrdersPlaced : Prop :=
  ∀ (l : Loader) (s : State),
    (∀ o : Order, (s.port l).sending = none → (s.port l).orders = [] →
      (s.issue l o).port l =
        { s.port l with counter := (s.port l).counter + 1, sending := some ((s.port l).counter, o) })
      ∧ ((s.port l).sending.isSome = true →
        (∀ o : Order, o ≠ .stop → (s.port l).orders.length < 4 →
          (s.issue l o).port l = { s.port l with orders := (s.port l).orders ++ [o] })
          ∧ (∀ (o a b c d : Order), o ≠ .stop → (s.port l).orders = [a, b, c, d] →
            (s.issue l o).port l = { s.port l with orders := [b, c, d, o] })
          ∧ (s.issue l .stop).port l = { s.port l with orders := [.stop] })
      ∧ (∀ o : Order, s.keeps (s.issue l o) [.port l])
      ∧ ∀ (tag : Byte) (n : Nat) (rep : Report), s.takes .terminal → loaderOf n = some l → (s.loader l).state = .travel →
        (s.loader l).lastReport = some rep → (s.port l).sending.isSome = true →
        ∃ t u : State, exec (.stop tag n) s = .next t ∧ (t.port l).orders = [.stop]
          ∧ (t.port l).sending = (s.port l).sending ∧ exec (.orderFrameSent l) t = .next u ∧ (u.port l).orders = []
          ∧ (u.port l).counter = (s.port l).counter + 1 ∧ (u.port l).sending = some ((s.port l).counter, .stop)

/-! ### Resets -/

/-- What every reset leaves, and what each keeps. The plan is EMPTY with W 60 s, the Hatch Map and the Window Cache are
empty, the loaders UNREPORTED, the gate CLOSED or CLOSING by its line with no fault and no aged-report mark, the diverter
without a command in the state that its lines give, its move timer running in MOVING, the belt at its defaults with nothing
on it, the zones in PURGE for 120 s when no alarm stands, the lines at HIGH with the raw levels given, the ports and links
idle and DOWN. Every notice record holds RESTART, with an EQUIPMENT_FAULT when two flap conditions are found asserted, a
DUST_ALARM for each zone found in alarm and, after a warm reset, a LOT_STATE for each lot it closes, and nothing else. A
warm reset keeps the lots and the unassigned record, moves their in-transit mass to Unresolved, closes the lots in CLOSING
and keeps metrology; a retained clear empties the book. The supply's loss leads to a warm reset with the bank valid and to a
retained clear otherwise (R27, R28, R38, R50, R68, R71, R78, R79, R87, R106, R119, R120, R121, R123, R138, R148, R150, R169;
the raw levels and the strap come as operands: the model's choice, log 24; a report age of 0 before the first report: log 2;
that POWER_ON acts in any state: log 15). -/
def Obligations.ResetsRestore : Prop :=
  ∀ (raw : Half) (strap : Bool) (s : State),
    (∀ (c : Instr) (kind : RestartKind),
      (c = .warmReset raw strap ∧ kind = .warmLine ∧ s.mainSupply = true
        ∨ c = .retainedClear raw strap ∧ kind = .clearLine ∧ s.mainSupply = true
        ∨ c = .powerOn raw strap ∧ kind = .warmPower ∧ s.bankHeld = true
        ∨ c = .powerOn raw strap ∧ kind = .clearBank ∧ s.bankHeld = false) →
      ∃ t : State, exec c s = .next t ∧ t.mainSupply = true ∧ t.timeBase = 0 ∧ t.fastRate = strap
        ∧ t.plan = ⟨.empty, [], 1, [], none, none, none, 60⟩
        ∧ t.hatch = State.reset.hatch ∧ t.cache = State.reset.cache ∧ t.loaders = State.reset.loaders
        ∧ t.ports = State.reset.ports ∧ t.links = State.reset.links
        ∧ t.weigh =
          { State.reset.weigh with
            metrology :=
              if kind = .warmLine ∨ kind = .warmPower then s.weigh.metrology else ⟨10, 1000000, false⟩ }
        ∧ t.gate.demand = .closed ∧ t.gate.fault = false ∧ t.gate.openLine = false ∧ t.gate.fullLine = false
        ∧ t.gate.state = (if raw.getLsbD 15 = true then .closed else .closing)
        ∧ t.gate.timer = (if raw.getLsbD 15 = true then none else some 10000)
        ∧ t.gate.agedMark = none
        ∧ (∀ d : DiverterState,
          d = diverterBy ((raw.getLsbD 10).toNat + (raw.getLsbD 11).toNat + (raw.getLsbD 12).toNat)
            (placeOf (raw.getLsbD 10) (raw.getLsbD 11) (raw.getLsbD 12)) none false →
          t.diverter = ⟨d, none, if d = .moving then some 20000 else none, false, false, false, false⟩)
        ∧ (∀ z : Zone, raw.getLsbD (alarmLine z) = false → t.dust.get z = ⟨.purge, some 120000, 120, []⟩)
        ∧ (∀ z : Zone, raw.getLsbD (alarmLine z) = true → t.dust.get z = ⟨.alarm, none, 120, [0]⟩)
        ∧ (∀ i : Fin 16, t.lines.records[i.val]? =
          some ⟨.high, true, 3, raw.getLsbD i.val, 0, raw.getLsbD i.val⟩) ∧ t.lines.locked = false
        ∧ t.lines.raw = (List.range 16).map (fun i => raw.getLsbD i)
        ∧ (∀ (k : Link) (zs : List Zone) (ns : List Nat),
          zs = [Zone.z1, .z2, .z3].filter (fun z => raw.getLsbD (alarmLine z)) →
          ns = (if kind = .warmLine ∨ kind = .warmPower then
            [1, 2, 3, 4, 5, 6, 7, 8].filter fun n => (s.lot? n).any fun r => r.state == .closing else []) →
          (t.notice k).entry? 15 = some ⟨.restart kind, 1⟩
            ∧ (t.notice k).entry? 11 =
              (if 2 ≤ (raw.getLsbD 10).toNat + (raw.getLsbD 11).toNat + (raw.getLsbD 12).toNat then
                some ⟨.equipmentFault .diverter, 1⟩ else none)
            ∧ (t.notice k).entry? 1 = zs.getLast?.map (fun z => ⟨.dustAlarm z, zs.length⟩)
            ∧ (t.notice k).entry? 10 = ns.getLast?.map (fun n => ⟨.lotState n, ns.length⟩)
            ∧ (∀ c : Nat, c ≠ 1 → c ≠ 10 → c ≠ 11 → c ≠ 15 → (t.notice k).entry? c = none)
            ∧ (t.notice k).routes = routesOf (defaultCodes k))
        ∧ t.book.restartKind = kind ∧ t.pending = s.pending
        ∧ (kind = .clearLine ∨ kind = .clearBank →
          t.book.lots = State.reset.book.lots ∧ t.book.unassigned = Account.zero)
        ∧ (kind = .warmLine ∨ kind = .warmPower →
          s.book.unassigned.unresolved + s.book.unassigned.inTransit ≤ 4000000000 →
          t.book.unassigned =
            { s.book.unassigned with
              unresolved := s.book.unassigned.unresolved + s.book.unassigned.inTransit
              inTransit := 0 })
        ∧ (kind = .warmLine ∨ kind = .warmPower → ∀ (n : Nat) (r : LotRecord), s.lot? n = some r →
          r.account.unresolved + r.account.inTransit ≤ 4000000000 →
          t.lot? n = some
            (if r.state = .closing then
              { r with
                state := .closed
                account :=
                  { r.account with
                    unresolved := r.account.unresolved + r.account.inTransit
                    inTransit := 0
                    residue := 0 }
                closing := some
                  ⟨r.account.weighed, r.account.delivered.sum, r.account.delivered, r.account.offPlan,
                    r.account.returned, r.account.spill, r.account.unresolved + r.account.inTransit, r.account.residue,
                    s.weigh.metrology.quantum, s.weigh.metrology.span⟩ }
            else
              { r with
                account :=
                  { r.account with
                    unresolved := r.account.unresolved + r.account.inTransit
                    inTransit := 0 } })))
end

