-- ==== Sys2Proof/Laws/State.lean ====
section
/-! SUPPORT. Laws/State.lean: one lemma for each field of State and each named update, true by rfl, and the laws of the values
kept for each link, loader and zone. -/

namespace Sys2Proof.Machine

@[simp] theorem PerLink.get_set {α : Type} (p : PerLink α) (k j : Link) (v : α) :
    (p.set k v).get j = if j = k then v else p.get j := by cases k <;> cases j <;> rfl
@[simp] theorem PerLink.set_set {α : Type} (p : PerLink α) (k : Link) (v w : α) :
    (p.set k v).set k w = p.set k w := by cases k <;> rfl
@[simp] theorem PerLink.set_get {α : Type} (p : PerLink α) (k : Link) : p.set k (p.get k) = p := by cases k <;> rfl
@[simp] theorem PerLoader.get_set {α : Type} (p : PerLoader α) (k j : Loader) (v : α) :
    (p.set k v).get j = if j = k then v else p.get j := by cases k <;> cases j <;> rfl
@[simp] theorem PerLoader.set_set {α : Type} (p : PerLoader α) (k : Loader) (v w : α) :
    (p.set k v).set k w = p.set k w := by cases k <;> rfl
@[simp] theorem PerLoader.set_get {α : Type} (p : PerLoader α) (k : Loader) : p.set k (p.get k) = p := by
  cases k <;> rfl
@[simp] theorem PerZone.get_set {α : Type} (p : PerZone α) (k j : Zone) (v : α) :
    (p.set k v).get j = if j = k then v else p.get j := by cases k <;> cases j <;> rfl
@[simp] theorem PerZone.set_set {α : Type} (p : PerZone α) (k : Zone) (v w : α) :
    (p.set k v).set k w = p.set k w := by cases k <;> rfl
@[simp] theorem PerZone.set_get {α : Type} (p : PerZone α) (k : Zone) : p.set k (p.get k) = p := by cases k <;> rfl

variable (s : State)

@[simp] theorem State.withPlan_pending (p : Plan) : (s.withPlan p).pending = s.pending := rfl
@[simp] theorem State.withPlan_mainSupply (p : Plan) : (s.withPlan p).mainSupply = s.mainSupply := rfl
@[simp] theorem State.withPlan_bankHeld (p : Plan) : (s.withPlan p).bankHeld = s.bankHeld := rfl
@[simp] theorem State.withPlan_timeBase (p : Plan) : (s.withPlan p).timeBase = s.timeBase := rfl
@[simp] theorem State.withPlan_fastRate (p : Plan) : (s.withPlan p).fastRate = s.fastRate := rfl
@[simp] theorem State.withPlan_plan (p : Plan) : (s.withPlan p).plan = p := rfl
@[simp] theorem State.withPlan_hatch (p : Plan) : (s.withPlan p).hatch = s.hatch := rfl
@[simp] theorem State.withPlan_cache (p : Plan) : (s.withPlan p).cache = s.cache := rfl
@[simp] theorem State.withPlan_loaders (p : Plan) : (s.withPlan p).loaders = s.loaders := rfl
@[simp] theorem State.withPlan_gate (p : Plan) : (s.withPlan p).gate = s.gate := rfl
@[simp] theorem State.withPlan_diverter (p : Plan) : (s.withPlan p).diverter = s.diverter := rfl
@[simp] theorem State.withPlan_weigh (p : Plan) : (s.withPlan p).weigh = s.weigh := rfl
@[simp] theorem State.withPlan_book (p : Plan) : (s.withPlan p).book = s.book := rfl
@[simp] theorem State.withPlan_dust (p : Plan) : (s.withPlan p).dust = s.dust := rfl
@[simp] theorem State.withPlan_lines (p : Plan) : (s.withPlan p).lines = s.lines := rfl
@[simp] theorem State.withPlan_ports (p : Plan) : (s.withPlan p).ports = s.ports := rfl
@[simp] theorem State.withPlan_links (p : Plan) : (s.withPlan p).links = s.links := rfl
@[simp] theorem State.withPlan_notices (p : Plan) : (s.withPlan p).notices = s.notices := rfl
@[simp] theorem State.withHatch_pending (h : Hatch) : (s.withHatch h).pending = s.pending := rfl
@[simp] theorem State.withHatch_mainSupply (h : Hatch) : (s.withHatch h).mainSupply = s.mainSupply := rfl
@[simp] theorem State.withHatch_bankHeld (h : Hatch) : (s.withHatch h).bankHeld = s.bankHeld := rfl
@[simp] theorem State.withHatch_timeBase (h : Hatch) : (s.withHatch h).timeBase = s.timeBase := rfl
@[simp] theorem State.withHatch_fastRate (h : Hatch) : (s.withHatch h).fastRate = s.fastRate := rfl
@[simp] theorem State.withHatch_plan (h : Hatch) : (s.withHatch h).plan = s.plan := rfl
@[simp] theorem State.withHatch_hatch (h : Hatch) : (s.withHatch h).hatch = h := rfl
@[simp] theorem State.withHatch_cache (h : Hatch) : (s.withHatch h).cache = s.cache := rfl
@[simp] theorem State.withHatch_loaders (h : Hatch) : (s.withHatch h).loaders = s.loaders := rfl
@[simp] theorem State.withHatch_gate (h : Hatch) : (s.withHatch h).gate = s.gate := rfl
@[simp] theorem State.withHatch_diverter (h : Hatch) : (s.withHatch h).diverter = s.diverter := rfl
@[simp] theorem State.withHatch_weigh (h : Hatch) : (s.withHatch h).weigh = s.weigh := rfl
@[simp] theorem State.withHatch_book (h : Hatch) : (s.withHatch h).book = s.book := rfl
@[simp] theorem State.withHatch_dust (h : Hatch) : (s.withHatch h).dust = s.dust := rfl
@[simp] theorem State.withHatch_lines (h : Hatch) : (s.withHatch h).lines = s.lines := rfl
@[simp] theorem State.withHatch_ports (h : Hatch) : (s.withHatch h).ports = s.ports := rfl
@[simp] theorem State.withHatch_links (h : Hatch) : (s.withHatch h).links = s.links := rfl
@[simp] theorem State.withHatch_notices (h : Hatch) : (s.withHatch h).notices = s.notices := rfl
@[simp] theorem State.withCache_pending (c : Cache) : (s.withCache c).pending = s.pending := rfl
@[simp] theorem State.withCache_mainSupply (c : Cache) : (s.withCache c).mainSupply = s.mainSupply := rfl
@[simp] theorem State.withCache_bankHeld (c : Cache) : (s.withCache c).bankHeld = s.bankHeld := rfl
@[simp] theorem State.withCache_timeBase (c : Cache) : (s.withCache c).timeBase = s.timeBase := rfl
@[simp] theorem State.withCache_fastRate (c : Cache) : (s.withCache c).fastRate = s.fastRate := rfl
@[simp] theorem State.withCache_plan (c : Cache) : (s.withCache c).plan = s.plan := rfl
@[simp] theorem State.withCache_hatch (c : Cache) : (s.withCache c).hatch = s.hatch := rfl
@[simp] theorem State.withCache_cache (c : Cache) : (s.withCache c).cache = c := rfl
@[simp] theorem State.withCache_loaders (c : Cache) : (s.withCache c).loaders = s.loaders := rfl
@[simp] theorem State.withCache_gate (c : Cache) : (s.withCache c).gate = s.gate := rfl
@[simp] theorem State.withCache_diverter (c : Cache) : (s.withCache c).diverter = s.diverter := rfl
@[simp] theorem State.withCache_weigh (c : Cache) : (s.withCache c).weigh = s.weigh := rfl
@[simp] theorem State.withCache_book (c : Cache) : (s.withCache c).book = s.book := rfl
@[simp] theorem State.withCache_dust (c : Cache) : (s.withCache c).dust = s.dust := rfl
@[simp] theorem State.withCache_lines (c : Cache) : (s.withCache c).lines = s.lines := rfl
@[simp] theorem State.withCache_ports (c : Cache) : (s.withCache c).ports = s.ports := rfl
@[simp] theorem State.withCache_links (c : Cache) : (s.withCache c).links = s.links := rfl
@[simp] theorem State.withCache_notices (c : Cache) : (s.withCache c).notices = s.notices := rfl
@[simp] theorem State.withLoader_pending (l : Loader) (r : LoaderRecord) : (s.withLoader l r).pending = s.pending := rfl
@[simp] theorem State.withLoader_mainSupply (l : Loader) (r : LoaderRecord) : (s.withLoader l r).mainSupply = s.mainSupply := rfl
@[simp] theorem State.withLoader_bankHeld (l : Loader) (r : LoaderRecord) : (s.withLoader l r).bankHeld = s.bankHeld := rfl
@[simp] theorem State.withLoader_timeBase (l : Loader) (r : LoaderRecord) : (s.withLoader l r).timeBase = s.timeBase := rfl
@[simp] theorem State.withLoader_fastRate (l : Loader) (r : LoaderRecord) : (s.withLoader l r).fastRate = s.fastRate := rfl
@[simp] theorem State.withLoader_plan (l : Loader) (r : LoaderRecord) : (s.withLoader l r).plan = s.plan := rfl
@[simp] theorem State.withLoader_hatch (l : Loader) (r : LoaderRecord) : (s.withLoader l r).hatch = s.hatch := rfl
@[simp] theorem State.withLoader_cache (l : Loader) (r : LoaderRecord) : (s.withLoader l r).cache = s.cache := rfl
@[simp] theorem State.withLoader_loaders (l : Loader) (r : LoaderRecord) : (s.withLoader l r).loaders = s.loaders.set l r := rfl
@[simp] theorem State.withLoader_gate (l : Loader) (r : LoaderRecord) : (s.withLoader l r).gate = s.gate := rfl
@[simp] theorem State.withLoader_diverter (l : Loader) (r : LoaderRecord) : (s.withLoader l r).diverter = s.diverter := rfl
@[simp] theorem State.withLoader_weigh (l : Loader) (r : LoaderRecord) : (s.withLoader l r).weigh = s.weigh := rfl
@[simp] theorem State.withLoader_book (l : Loader) (r : LoaderRecord) : (s.withLoader l r).book = s.book := rfl
@[simp] theorem State.withLoader_dust (l : Loader) (r : LoaderRecord) : (s.withLoader l r).dust = s.dust := rfl
@[simp] theorem State.withLoader_lines (l : Loader) (r : LoaderRecord) : (s.withLoader l r).lines = s.lines := rfl
@[simp] theorem State.withLoader_ports (l : Loader) (r : LoaderRecord) : (s.withLoader l r).ports = s.ports := rfl
@[simp] theorem State.withLoader_links (l : Loader) (r : LoaderRecord) : (s.withLoader l r).links = s.links := rfl
@[simp] theorem State.withLoader_notices (l : Loader) (r : LoaderRecord) : (s.withLoader l r).notices = s.notices := rfl
@[simp] theorem State.withGate_pending (g : Gate) : (s.withGate g).pending = s.pending := rfl
@[simp] theorem State.withGate_mainSupply (g : Gate) : (s.withGate g).mainSupply = s.mainSupply := rfl
@[simp] theorem State.withGate_bankHeld (g : Gate) : (s.withGate g).bankHeld = s.bankHeld := rfl
@[simp] theorem State.withGate_timeBase (g : Gate) : (s.withGate g).timeBase = s.timeBase := rfl
@[simp] theorem State.withGate_fastRate (g : Gate) : (s.withGate g).fastRate = s.fastRate := rfl
@[simp] theorem State.withGate_plan (g : Gate) : (s.withGate g).plan = s.plan := rfl
@[simp] theorem State.withGate_hatch (g : Gate) : (s.withGate g).hatch = s.hatch := rfl
@[simp] theorem State.withGate_cache (g : Gate) : (s.withGate g).cache = s.cache := rfl
@[simp] theorem State.withGate_loaders (g : Gate) : (s.withGate g).loaders = s.loaders := rfl
@[simp] theorem State.withGate_gate (g : Gate) : (s.withGate g).gate = g := rfl
@[simp] theorem State.withGate_diverter (g : Gate) : (s.withGate g).diverter = s.diverter := rfl
@[simp] theorem State.withGate_weigh (g : Gate) : (s.withGate g).weigh = s.weigh := rfl
@[simp] theorem State.withGate_book (g : Gate) : (s.withGate g).book = s.book := rfl
@[simp] theorem State.withGate_dust (g : Gate) : (s.withGate g).dust = s.dust := rfl
@[simp] theorem State.withGate_lines (g : Gate) : (s.withGate g).lines = s.lines := rfl
@[simp] theorem State.withGate_ports (g : Gate) : (s.withGate g).ports = s.ports := rfl
@[simp] theorem State.withGate_links (g : Gate) : (s.withGate g).links = s.links := rfl
@[simp] theorem State.withGate_notices (g : Gate) : (s.withGate g).notices = s.notices := rfl
@[simp] theorem State.withDiverter_pending (d : Diverter) : (s.withDiverter d).pending = s.pending := rfl
@[simp] theorem State.withDiverter_mainSupply (d : Diverter) : (s.withDiverter d).mainSupply = s.mainSupply := rfl
@[simp] theorem State.withDiverter_bankHeld (d : Diverter) : (s.withDiverter d).bankHeld = s.bankHeld := rfl
@[simp] theorem State.withDiverter_timeBase (d : Diverter) : (s.withDiverter d).timeBase = s.timeBase := rfl
@[simp] theorem State.withDiverter_fastRate (d : Diverter) : (s.withDiverter d).fastRate = s.fastRate := rfl
@[simp] theorem State.withDiverter_plan (d : Diverter) : (s.withDiverter d).plan = s.plan := rfl
@[simp] theorem State.withDiverter_hatch (d : Diverter) : (s.withDiverter d).hatch = s.hatch := rfl
@[simp] theorem State.withDiverter_cache (d : Diverter) : (s.withDiverter d).cache = s.cache := rfl
@[simp] theorem State.withDiverter_loaders (d : Diverter) : (s.withDiverter d).loaders = s.loaders := rfl
@[simp] theorem State.withDiverter_gate (d : Diverter) : (s.withDiverter d).gate = s.gate := rfl
@[simp] theorem State.withDiverter_diverter (d : Diverter) : (s.withDiverter d).diverter = d := rfl
@[simp] theorem State.withDiverter_weigh (d : Diverter) : (s.withDiverter d).weigh = s.weigh := rfl
@[simp] theorem State.withDiverter_book (d : Diverter) : (s.withDiverter d).book = s.book := rfl
@[simp] theorem State.withDiverter_dust (d : Diverter) : (s.withDiverter d).dust = s.dust := rfl
@[simp] theorem State.withDiverter_lines (d : Diverter) : (s.withDiverter d).lines = s.lines := rfl
@[simp] theorem State.withDiverter_ports (d : Diverter) : (s.withDiverter d).ports = s.ports := rfl
@[simp] theorem State.withDiverter_links (d : Diverter) : (s.withDiverter d).links = s.links := rfl
@[simp] theorem State.withDiverter_notices (d : Diverter) : (s.withDiverter d).notices = s.notices := rfl
@[simp] theorem State.withWeigh_pending (w : Weigh) : (s.withWeigh w).pending = s.pending := rfl
@[simp] theorem State.withWeigh_mainSupply (w : Weigh) : (s.withWeigh w).mainSupply = s.mainSupply := rfl
@[simp] theorem State.withWeigh_bankHeld (w : Weigh) : (s.withWeigh w).bankHeld = s.bankHeld := rfl
@[simp] theorem State.withWeigh_timeBase (w : Weigh) : (s.withWeigh w).timeBase = s.timeBase := rfl
@[simp] theorem State.withWeigh_fastRate (w : Weigh) : (s.withWeigh w).fastRate = s.fastRate := rfl
@[simp] theorem State.withWeigh_plan (w : Weigh) : (s.withWeigh w).plan = s.plan := rfl
@[simp] theorem State.withWeigh_hatch (w : Weigh) : (s.withWeigh w).hatch = s.hatch := rfl
@[simp] theorem State.withWeigh_cache (w : Weigh) : (s.withWeigh w).cache = s.cache := rfl
@[simp] theorem State.withWeigh_loaders (w : Weigh) : (s.withWeigh w).loaders = s.loaders := rfl
@[simp] theorem State.withWeigh_gate (w : Weigh) : (s.withWeigh w).gate = s.gate := rfl
@[simp] theorem State.withWeigh_diverter (w : Weigh) : (s.withWeigh w).diverter = s.diverter := rfl
@[simp] theorem State.withWeigh_weigh (w : Weigh) : (s.withWeigh w).weigh = w := rfl
@[simp] theorem State.withWeigh_book (w : Weigh) : (s.withWeigh w).book = s.book := rfl
@[simp] theorem State.withWeigh_dust (w : Weigh) : (s.withWeigh w).dust = s.dust := rfl
@[simp] theorem State.withWeigh_lines (w : Weigh) : (s.withWeigh w).lines = s.lines := rfl
@[simp] theorem State.withWeigh_ports (w : Weigh) : (s.withWeigh w).ports = s.ports := rfl
@[simp] theorem State.withWeigh_links (w : Weigh) : (s.withWeigh w).links = s.links := rfl
@[simp] theorem State.withWeigh_notices (w : Weigh) : (s.withWeigh w).notices = s.notices := rfl
@[simp] theorem State.withBook_pending (b : Book) : (s.withBook b).pending = s.pending := rfl
@[simp] theorem State.withBook_mainSupply (b : Book) : (s.withBook b).mainSupply = s.mainSupply := rfl
@[simp] theorem State.withBook_bankHeld (b : Book) : (s.withBook b).bankHeld = s.bankHeld := rfl
@[simp] theorem State.withBook_timeBase (b : Book) : (s.withBook b).timeBase = s.timeBase := rfl
@[simp] theorem State.withBook_fastRate (b : Book) : (s.withBook b).fastRate = s.fastRate := rfl
@[simp] theorem State.withBook_plan (b : Book) : (s.withBook b).plan = s.plan := rfl
@[simp] theorem State.withBook_hatch (b : Book) : (s.withBook b).hatch = s.hatch := rfl
@[simp] theorem State.withBook_cache (b : Book) : (s.withBook b).cache = s.cache := rfl
@[simp] theorem State.withBook_loaders (b : Book) : (s.withBook b).loaders = s.loaders := rfl
@[simp] theorem State.withBook_gate (b : Book) : (s.withBook b).gate = s.gate := rfl
@[simp] theorem State.withBook_diverter (b : Book) : (s.withBook b).diverter = s.diverter := rfl
@[simp] theorem State.withBook_weigh (b : Book) : (s.withBook b).weigh = s.weigh := rfl
@[simp] theorem State.withBook_book (b : Book) : (s.withBook b).book = b := rfl
@[simp] theorem State.withBook_dust (b : Book) : (s.withBook b).dust = s.dust := rfl
@[simp] theorem State.withBook_lines (b : Book) : (s.withBook b).lines = s.lines := rfl
@[simp] theorem State.withBook_ports (b : Book) : (s.withBook b).ports = s.ports := rfl
@[simp] theorem State.withBook_links (b : Book) : (s.withBook b).links = s.links := rfl
@[simp] theorem State.withBook_notices (b : Book) : (s.withBook b).notices = s.notices := rfl
@[simp] theorem State.withZone_pending (z : Zone) (r : ZoneRecord) : (s.withZone z r).pending = s.pending := rfl
@[simp] theorem State.withZone_mainSupply (z : Zone) (r : ZoneRecord) : (s.withZone z r).mainSupply = s.mainSupply := rfl
@[simp] theorem State.withZone_bankHeld (z : Zone) (r : ZoneRecord) : (s.withZone z r).bankHeld = s.bankHeld := rfl
@[simp] theorem State.withZone_timeBase (z : Zone) (r : ZoneRecord) : (s.withZone z r).timeBase = s.timeBase := rfl
@[simp] theorem State.withZone_fastRate (z : Zone) (r : ZoneRecord) : (s.withZone z r).fastRate = s.fastRate := rfl
@[simp] theorem State.withZone_plan (z : Zone) (r : ZoneRecord) : (s.withZone z r).plan = s.plan := rfl
@[simp] theorem State.withZone_hatch (z : Zone) (r : ZoneRecord) : (s.withZone z r).hatch = s.hatch := rfl
@[simp] theorem State.withZone_cache (z : Zone) (r : ZoneRecord) : (s.withZone z r).cache = s.cache := rfl
@[simp] theorem State.withZone_loaders (z : Zone) (r : ZoneRecord) : (s.withZone z r).loaders = s.loaders := rfl
@[simp] theorem State.withZone_gate (z : Zone) (r : ZoneRecord) : (s.withZone z r).gate = s.gate := rfl
@[simp] theorem State.withZone_diverter (z : Zone) (r : ZoneRecord) : (s.withZone z r).diverter = s.diverter := rfl
@[simp] theorem State.withZone_weigh (z : Zone) (r : ZoneRecord) : (s.withZone z r).weigh = s.weigh := rfl
@[simp] theorem State.withZone_book (z : Zone) (r : ZoneRecord) : (s.withZone z r).book = s.book := rfl
@[simp] theorem State.withZone_dust (z : Zone) (r : ZoneRecord) : (s.withZone z r).dust = s.dust.set z r := rfl
@[simp] theorem State.withZone_lines (z : Zone) (r : ZoneRecord) : (s.withZone z r).lines = s.lines := rfl
@[simp] theorem State.withZone_ports (z : Zone) (r : ZoneRecord) : (s.withZone z r).ports = s.ports := rfl
@[simp] theorem State.withZone_links (z : Zone) (r : ZoneRecord) : (s.withZone z r).links = s.links := rfl
@[simp] theorem State.withZone_notices (z : Zone) (r : ZoneRecord) : (s.withZone z r).notices = s.notices := rfl
@[simp] theorem State.withLines_pending (l : FieldLines) : (s.withLines l).pending = s.pending := rfl
@[simp] theorem State.withLines_mainSupply (l : FieldLines) : (s.withLines l).mainSupply = s.mainSupply := rfl
@[simp] theorem State.withLines_bankHeld (l : FieldLines) : (s.withLines l).bankHeld = s.bankHeld := rfl
@[simp] theorem State.withLines_timeBase (l : FieldLines) : (s.withLines l).timeBase = s.timeBase := rfl
@[simp] theorem State.withLines_fastRate (l : FieldLines) : (s.withLines l).fastRate = s.fastRate := rfl
@[simp] theorem State.withLines_plan (l : FieldLines) : (s.withLines l).plan = s.plan := rfl
@[simp] theorem State.withLines_hatch (l : FieldLines) : (s.withLines l).hatch = s.hatch := rfl
@[simp] theorem State.withLines_cache (l : FieldLines) : (s.withLines l).cache = s.cache := rfl
@[simp] theorem State.withLines_loaders (l : FieldLines) : (s.withLines l).loaders = s.loaders := rfl
@[simp] theorem State.withLines_gate (l : FieldLines) : (s.withLines l).gate = s.gate := rfl
@[simp] theorem State.withLines_diverter (l : FieldLines) : (s.withLines l).diverter = s.diverter := rfl
@[simp] theorem State.withLines_weigh (l : FieldLines) : (s.withLines l).weigh = s.weigh := rfl
@[simp] theorem State.withLines_book (l : FieldLines) : (s.withLines l).book = s.book := rfl
@[simp] theorem State.withLines_dust (l : FieldLines) : (s.withLines l).dust = s.dust := rfl
@[simp] theorem State.withLines_lines (l : FieldLines) : (s.withLines l).lines = l := rfl
@[simp] theorem State.withLines_ports (l : FieldLines) : (s.withLines l).ports = s.ports := rfl
@[simp] theorem State.withLines_links (l : FieldLines) : (s.withLines l).links = s.links := rfl
@[simp] theorem State.withLines_notices (l : FieldLines) : (s.withLines l).notices = s.notices := rfl
@[simp] theorem State.withPort_pending (l : Loader) (p : DrivePort) : (s.withPort l p).pending = s.pending := rfl
@[simp] theorem State.withPort_mainSupply (l : Loader) (p : DrivePort) : (s.withPort l p).mainSupply = s.mainSupply := rfl
@[simp] theorem State.withPort_bankHeld (l : Loader) (p : DrivePort) : (s.withPort l p).bankHeld = s.bankHeld := rfl
@[simp] theorem State.withPort_timeBase (l : Loader) (p : DrivePort) : (s.withPort l p).timeBase = s.timeBase := rfl
@[simp] theorem State.withPort_fastRate (l : Loader) (p : DrivePort) : (s.withPort l p).fastRate = s.fastRate := rfl
@[simp] theorem State.withPort_plan (l : Loader) (p : DrivePort) : (s.withPort l p).plan = s.plan := rfl
@[simp] theorem State.withPort_hatch (l : Loader) (p : DrivePort) : (s.withPort l p).hatch = s.hatch := rfl
@[simp] theorem State.withPort_cache (l : Loader) (p : DrivePort) : (s.withPort l p).cache = s.cache := rfl
@[simp] theorem State.withPort_loaders (l : Loader) (p : DrivePort) : (s.withPort l p).loaders = s.loaders := rfl
@[simp] theorem State.withPort_gate (l : Loader) (p : DrivePort) : (s.withPort l p).gate = s.gate := rfl
@[simp] theorem State.withPort_diverter (l : Loader) (p : DrivePort) : (s.withPort l p).diverter = s.diverter := rfl
@[simp] theorem State.withPort_weigh (l : Loader) (p : DrivePort) : (s.withPort l p).weigh = s.weigh := rfl
@[simp] theorem State.withPort_book (l : Loader) (p : DrivePort) : (s.withPort l p).book = s.book := rfl
@[simp] theorem State.withPort_dust (l : Loader) (p : DrivePort) : (s.withPort l p).dust = s.dust := rfl
@[simp] theorem State.withPort_lines (l : Loader) (p : DrivePort) : (s.withPort l p).lines = s.lines := rfl
@[simp] theorem State.withPort_ports (l : Loader) (p : DrivePort) : (s.withPort l p).ports = s.ports.set l p := rfl
@[simp] theorem State.withPort_links (l : Loader) (p : DrivePort) : (s.withPort l p).links = s.links := rfl
@[simp] theorem State.withPort_notices (l : Loader) (p : DrivePort) : (s.withPort l p).notices = s.notices := rfl
@[simp] theorem State.withLink_pending (k : Link) (r : LinkRecord) : (s.withLink k r).pending = s.pending := rfl
@[simp] theorem State.withLink_mainSupply (k : Link) (r : LinkRecord) : (s.withLink k r).mainSupply = s.mainSupply := rfl
@[simp] theorem State.withLink_bankHeld (k : Link) (r : LinkRecord) : (s.withLink k r).bankHeld = s.bankHeld := rfl
@[simp] theorem State.withLink_timeBase (k : Link) (r : LinkRecord) : (s.withLink k r).timeBase = s.timeBase := rfl
@[simp] theorem State.withLink_fastRate (k : Link) (r : LinkRecord) : (s.withLink k r).fastRate = s.fastRate := rfl
@[simp] theorem State.withLink_plan (k : Link) (r : LinkRecord) : (s.withLink k r).plan = s.plan := rfl
@[simp] theorem State.withLink_hatch (k : Link) (r : LinkRecord) : (s.withLink k r).hatch = s.hatch := rfl
@[simp] theorem State.withLink_cache (k : Link) (r : LinkRecord) : (s.withLink k r).cache = s.cache := rfl
@[simp] theorem State.withLink_loaders (k : Link) (r : LinkRecord) : (s.withLink k r).loaders = s.loaders := rfl
@[simp] theorem State.withLink_gate (k : Link) (r : LinkRecord) : (s.withLink k r).gate = s.gate := rfl
@[simp] theorem State.withLink_diverter (k : Link) (r : LinkRecord) : (s.withLink k r).diverter = s.diverter := rfl
@[simp] theorem State.withLink_weigh (k : Link) (r : LinkRecord) : (s.withLink k r).weigh = s.weigh := rfl
@[simp] theorem State.withLink_book (k : Link) (r : LinkRecord) : (s.withLink k r).book = s.book := rfl
@[simp] theorem State.withLink_dust (k : Link) (r : LinkRecord) : (s.withLink k r).dust = s.dust := rfl
@[simp] theorem State.withLink_lines (k : Link) (r : LinkRecord) : (s.withLink k r).lines = s.lines := rfl
@[simp] theorem State.withLink_ports (k : Link) (r : LinkRecord) : (s.withLink k r).ports = s.ports := rfl
@[simp] theorem State.withLink_links (k : Link) (r : LinkRecord) : (s.withLink k r).links = s.links.set k r := rfl
@[simp] theorem State.withLink_notices (k : Link) (r : LinkRecord) : (s.withLink k r).notices = s.notices := rfl
@[simp] theorem State.withNotice_pending (k : Link) (n : NoticeRecord) : (s.withNotice k n).pending = s.pending := rfl
@[simp] theorem State.withNotice_mainSupply (k : Link) (n : NoticeRecord) : (s.withNotice k n).mainSupply = s.mainSupply := rfl
@[simp] theorem State.withNotice_bankHeld (k : Link) (n : NoticeRecord) : (s.withNotice k n).bankHeld = s.bankHeld := rfl
@[simp] theorem State.withNotice_timeBase (k : Link) (n : NoticeRecord) : (s.withNotice k n).timeBase = s.timeBase := rfl
@[simp] theorem State.withNotice_fastRate (k : Link) (n : NoticeRecord) : (s.withNotice k n).fastRate = s.fastRate := rfl
@[simp] theorem State.withNotice_plan (k : Link) (n : NoticeRecord) : (s.withNotice k n).plan = s.plan := rfl
@[simp] theorem State.withNotice_hatch (k : Link) (n : NoticeRecord) : (s.withNotice k n).hatch = s.hatch := rfl
@[simp] theorem State.withNotice_cache (k : Link) (n : NoticeRecord) : (s.withNotice k n).cache = s.cache := rfl
@[simp] theorem State.withNotice_loaders (k : Link) (n : NoticeRecord) : (s.withNotice k n).loaders = s.loaders := rfl
@[simp] theorem State.withNotice_gate (k : Link) (n : NoticeRecord) : (s.withNotice k n).gate = s.gate := rfl
@[simp] theorem State.withNotice_diverter (k : Link) (n : NoticeRecord) : (s.withNotice k n).diverter = s.diverter := rfl
@[simp] theorem State.withNotice_weigh (k : Link) (n : NoticeRecord) : (s.withNotice k n).weigh = s.weigh := rfl
@[simp] theorem State.withNotice_book (k : Link) (n : NoticeRecord) : (s.withNotice k n).book = s.book := rfl
@[simp] theorem State.withNotice_dust (k : Link) (n : NoticeRecord) : (s.withNotice k n).dust = s.dust := rfl
@[simp] theorem State.withNotice_lines (k : Link) (n : NoticeRecord) : (s.withNotice k n).lines = s.lines := rfl
@[simp] theorem State.withNotice_ports (k : Link) (n : NoticeRecord) : (s.withNotice k n).ports = s.ports := rfl
@[simp] theorem State.withNotice_links (k : Link) (n : NoticeRecord) : (s.withNotice k n).links = s.links := rfl
@[simp] theorem State.withNotice_notices (k : Link) (n : NoticeRecord) : (s.withNotice k n).notices = s.notices.set k n := rfl
@[simp] theorem State.withPending_pending (q : List Instr) : (s.withPending q).pending = q := rfl
@[simp] theorem State.withPending_mainSupply (q : List Instr) : (s.withPending q).mainSupply = s.mainSupply := rfl
@[simp] theorem State.withPending_bankHeld (q : List Instr) : (s.withPending q).bankHeld = s.bankHeld := rfl
@[simp] theorem State.withPending_timeBase (q : List Instr) : (s.withPending q).timeBase = s.timeBase := rfl
@[simp] theorem State.withPending_fastRate (q : List Instr) : (s.withPending q).fastRate = s.fastRate := rfl
@[simp] theorem State.withPending_plan (q : List Instr) : (s.withPending q).plan = s.plan := rfl
@[simp] theorem State.withPending_hatch (q : List Instr) : (s.withPending q).hatch = s.hatch := rfl
@[simp] theorem State.withPending_cache (q : List Instr) : (s.withPending q).cache = s.cache := rfl
@[simp] theorem State.withPending_loaders (q : List Instr) : (s.withPending q).loaders = s.loaders := rfl
@[simp] theorem State.withPending_gate (q : List Instr) : (s.withPending q).gate = s.gate := rfl
@[simp] theorem State.withPending_diverter (q : List Instr) : (s.withPending q).diverter = s.diverter := rfl
@[simp] theorem State.withPending_weigh (q : List Instr) : (s.withPending q).weigh = s.weigh := rfl
@[simp] theorem State.withPending_book (q : List Instr) : (s.withPending q).book = s.book := rfl
@[simp] theorem State.withPending_dust (q : List Instr) : (s.withPending q).dust = s.dust := rfl
@[simp] theorem State.withPending_lines (q : List Instr) : (s.withPending q).lines = s.lines := rfl
@[simp] theorem State.withPending_ports (q : List Instr) : (s.withPending q).ports = s.ports := rfl
@[simp] theorem State.withPending_links (q : List Instr) : (s.withPending q).links = s.links := rfl
@[simp] theorem State.withPending_notices (q : List Instr) : (s.withPending q).notices = s.notices := rfl

theorem State.withPlan_self : s.withPlan s.plan = s := rfl
theorem State.withCache_self : s.withCache s.cache = s := rfl
theorem State.withGate_self : s.withGate s.gate = s := rfl
theorem State.withWeigh_self : s.withWeigh s.weigh = s := rfl
theorem State.withBook_self : s.withBook s.book = s := rfl
@[simp] theorem State.withLink_self (k : Link) : s.withLink k (s.link k) = s := by cases k <;> rfl
@[simp] theorem State.withPort_self (l : Loader) : s.withPort l (s.port l) = s := by cases l <;> rfl
@[simp] theorem State.withLoader_self (l : Loader) : s.withLoader l (s.loader l) = s := by cases l <;> rfl
@[simp] theorem State.withNotice_self (k : Link) : s.withNotice k (s.notice k) = s := by cases k <;> rfl
@[simp] theorem State.withZone_self (z : Zone) : s.withZone z (s.dust.get z) = s := by cases z <;> rfl

end Sys2Proof.Machine
end

