-- ==== Sys2Proof/Laws/Ops.lean ====
section
/-! SUPPORT. Laws/Ops.lean: what the named operations of Ops.lean do: frames of the state, events, placed frames, travel orders,
the taking of a request. -/

namespace Sys2Proof.Machine

/-! ### Frames -/

/-- A part reads the same in a state and itself. -/
theorem State.same_refl (s : State) (p : Part) : s.same s p := by cases p <;> simp [State.same]
/-- A part that reads the same twice reads the same throughout. -/
theorem State.same_trans {s t u : State} {p : Part} (h1 : s.same t p) (h2 : t.same u p) : s.same u p := by
  cases p with
  | supply => exact ⟨h2.1.trans h1.1, h2.2.trans h1.2⟩
  | _ => exact Eq.trans h2 h1
theorem State.keeps_refl (s : State) (may : List Part) : s.keeps s may := fun p _ => s.same_refl p
theorem State.keeps_trans {s t u : State} {may : List Part} (h1 : s.keeps t may) (h2 : t.keeps u may) : s.keeps u may :=
  fun p hp => State.same_trans (h1 p hp) (h2 p hp)
theorem State.keeps_mono {s t : State} {a b : List Part} (h : s.keeps t a) (hab : ∀ p ∈ a, p ∈ b) : s.keeps t b :=
  fun p hp => h p fun q => hp (hab p q)
theorem State.keepsNotifying_refl (s : State) (may : List Part) : s.keepsNotifying s may := s.keeps_refl _
theorem State.keepsNotifying_trans {s t u : State} {may : List Part} (h1 : s.keepsNotifying t may)
    (h2 : t.keepsNotifying u may) : s.keepsNotifying u may := State.keeps_trans h1 h2
theorem State.keepsNotifying_mono {s t : State} {a b : List Part} (h : s.keepsNotifying t a) (hab : ∀ p ∈ a, p ∈ b) :
    s.keepsNotifying t b := by
  refine State.keeps_mono h fun p hp => ?_
  rcases List.mem_append.1 hp with h1 | h1
  · exact List.mem_append_left _ (hab p h1)
  · exact List.mem_append_right _ h1

theorem State.withPlan_keeps (s : State) (p : Plan) : s.keeps (s.withPlan p) [.plan] := by
  intro q hq; cases q <;> first | exact absurd (List.Mem.head _) hq | exact rfl | exact ⟨rfl, rfl⟩
theorem State.withWeigh_keeps (s : State) (w : Weigh) : s.keeps (s.withWeigh w) [.weigh] := by
  intro q hq; cases q <;> first | exact absurd (List.Mem.head _) hq | exact rfl | exact ⟨rfl, rfl⟩
theorem State.withBook_keeps (s : State) (b : Book) : s.keeps (s.withBook b) [.book] := by
  intro q hq; cases q <;> first | exact absurd (List.Mem.head _) hq | exact rfl | exact ⟨rfl, rfl⟩
theorem State.withGate_keeps (s : State) (g : Gate) : s.keeps (s.withGate g) [.gate] := by
  intro q hq; cases q <;> first | exact absurd (List.Mem.head _) hq | exact rfl | exact ⟨rfl, rfl⟩
theorem State.withHatch_keeps (s : State) (g : Hatch) : s.keeps (s.withHatch g) [.hatch] := by
  intro q hq; cases q <;> first | exact absurd (List.Mem.head _) hq | exact rfl | exact ⟨rfl, rfl⟩
theorem State.withCache_keeps (s : State) (g : Cache) : s.keeps (s.withCache g) [.cache] := by
  intro q hq; cases q <;> first | exact absurd (List.Mem.head _) hq | exact rfl | exact ⟨rfl, rfl⟩
theorem State.withDiverter_keeps (s : State) (g : Diverter) : s.keeps (s.withDiverter g) [.diverter] := by
  intro q hq; cases q <;> first | exact absurd (List.Mem.head _) hq | exact rfl | exact ⟨rfl, rfl⟩
theorem State.withLines_keeps (s : State) (g : FieldLines) : s.keeps (s.withLines g) [.lines] := by
  intro q hq; cases q <;> first | exact absurd (List.Mem.head _) hq | exact rfl | exact ⟨rfl, rfl⟩
theorem State.withLoader_keeps (s : State) (l : Loader) (r : LoaderRecord) : s.keeps (s.withLoader l r) [.loader l] := by
  intro q hq
  cases q with
  | loader j =>
    have : j ≠ l := fun e => hq (by simp [e])
    simp [State.same, State.loader, this]
  | supply => exact ⟨rfl, rfl⟩
  | _ => exact rfl
theorem State.withZone_keeps (s : State) (z : Zone) (r : ZoneRecord) : s.keeps (s.withZone z r) [.zone z] := by
  intro q hq
  cases q with
  | zone j =>
    have : j ≠ z := fun e => hq (by simp [e])
    simp [State.same, this]
  | supply => exact ⟨rfl, rfl⟩
  | _ => exact rfl
theorem State.withPort_keeps (s : State) (l : Loader) (r : DrivePort) : s.keeps (s.withPort l r) [.port l] := by
  intro q hq
  cases q with
  | port j =>
    have : j ≠ l := fun e => hq (by simp [e])
    simp [State.same, State.port, this]
  | supply => exact ⟨rfl, rfl⟩
  | _ => exact rfl
theorem State.withLink_keeps (s : State) (k : Link) (r : LinkRecord) : s.keeps (s.withLink k r) [.link k] := by
  intro q hq
  cases q with
  | link j =>
    have : j ≠ k := fun e => hq (by simp [e])
    simp [State.same, State.link, this]
  | supply => exact ⟨rfl, rfl⟩
  | _ => exact rfl
theorem State.withNotice_keeps (s : State) (k : Link) (r : NoticeRecord) : s.keeps (s.withNotice k r) [.notice k] := by
  intro q hq
  cases q with
  | notice j =>
    have : j ≠ k := fun e => hq (by simp [e])
    simp [State.same, State.notice, this]
  | supply => exact ⟨rfl, rfl⟩
  | _ => exact rfl

/-! ### Views of the values kept for each link and loader -/

@[simp] theorem State.withLink_link (s : State) (k j : Link) (r : LinkRecord) :
    (s.withLink k r).link j = if j = k then r else s.link j := PerLink.get_set _ _ _ _
@[simp] theorem State.withNotice_link (s : State) (k j : Link) (n : NoticeRecord) : (s.withNotice k n).link j = s.link j := rfl
@[simp] theorem State.withNotice_notice (s : State) (k j : Link) (n : NoticeRecord) :
    (s.withNotice k n).notice j = if j = k then n else s.notice j := PerLink.get_set _ _ _ _
@[simp] theorem State.withLink_notice (s : State) (k j : Link) (r : LinkRecord) : (s.withLink k r).notice j = s.notice j := rfl
@[simp] theorem State.withLoader_loader (s : State) (l j : Loader) (r : LoaderRecord) :
    (s.withLoader l r).loader j = if j = l then r else s.loader j := PerLoader.get_set _ _ _ _
@[simp] theorem State.withPort_port (s : State) (l j : Loader) (r : DrivePort) :
    (s.withPort l r).port j = if j = l then r else s.port j := PerLoader.get_set _ _ _ _

/-! ### Events (R165, R166) -/

/-- What the taking of an event does to one link and its notice record: it writes these two and nothing else. -/
theorem State.raiseOn_eq (s : State) (k : Link) (e : Event) :
    ∃ (r : LinkRecord) (n : NoticeRecord), s.raiseOn k e = (s.withLink k r).withNotice k n ∧ (s.link k).noticed r
      ∧ n = (s.notice k).mark e.code ⟨e,
          match (s.notice k).entry? e.code with
          | some p => min Config.maxOccurrences (p.count + 1)
          | none => 1⟩ := by
  have hself : s.withLink k (s.link k) = s := by
    simp [State.withLink, State.link, PerLink.set_get]
  have hno : (s.link k).noticed (s.link k) := ⟨[], by simp [onlyNotices], by simp⟩
  unfold State.raiseOn
  cases (s.notice k).entry? e.code with
  | some p => exact ⟨s.link k, _, by rw [hself], hno, rfl⟩
  | none =>
    simp only
    split
    · unfold State.placeNotice
      split
      · exact ⟨_, _, rfl, ⟨[.notice e], by simp [onlyNotices], rfl⟩, rfl⟩
      · exact ⟨s.link k, _, by rw [hself], hno, rfl⟩
    · exact ⟨s.link k, _, by rw [hself], hno, rfl⟩
/-- The taking of an event on one link keeps every part but the link and its notice record. -/
theorem State.raiseOn_keeps (s : State) (k : Link) (e : Event) : s.keeps (s.raiseOn k e) [.link k, .notice k] := by
  obtain ⟨r, n, h, -, -⟩ := s.raiseOn_eq k e
  rw [h]
  exact State.keeps_trans (State.keeps_mono (s.withLink_keeps k r) (by simp))
    (State.keeps_mono ((s.withLink k r).withNotice_keeps k n) (by simp))
/-- An event changes the output queues and the notice records only. -/
theorem State.raise_keeps (s : State) (e : Event) : s.keeps (s.raise e) wires := by
  refine State.keeps_trans (State.keeps_trans (State.keeps_mono (s.raiseOn_keeps .terminal e) ?_)
    (State.keeps_mono (State.raiseOn_keeps _ .vessel e) ?_)) (State.keeps_mono (State.raiseOn_keeps _ .survey e) ?_) <;>
  simp [wires]
/-- An event changes the output queues and the notice records only. -/
theorem State.raise_keepsNotifying (s : State) (e : Event) (may : List Part) : s.keepsNotifying (s.raise e) may :=
  State.keeps_mono (s.raise_keeps e) fun _ h => List.mem_append_right _ h

/-! ### Travel orders (R148) -/

/-- A port with an order issued on it sends, and its queue stays within its capacity. -/
theorem DrivePort.issue_sends (p : DrivePort) (o : Order) (h : p.orders.length ≤ 4) :
    ((p.place o).start).sending.isSome = true ∧ ((p.place o).start).orders.length ≤ 4 := by
  have hp : (p.place o).orders ≠ [] ∧ (p.place o).orders.length ≤ 4 ∧ (p.place o).sending = p.sending := by
    unfold DrivePort.place
    cases o <;> by_cases h4 : 4 ≤ p.orders.length <;> simp [Config.maxOrders, h4] <;> omega
  obtain ⟨h1, h2, h3⟩ := hp
  unfold DrivePort.start
  cases hs : (p.place o).sending with
  | some x => simp [hs, h2]
  | none =>
    cases ho : (p.place o).orders with
    | nil => exact absurd ho h1
    | cons a rest => simp [ho] at h2 ⊢; omega
/-- An order issued on a port, in the terms of R148. -/
theorem DrivePort.issue_eq (p : DrivePort) (o : Order) : (p.place o).start = portAfter p o := by
  have h : p.place o =
      { p with orders := (if o = .stop then [] else if p.orders.length < 4 then p.orders else p.orders.drop 1) ++ [o] } := by
    have hl : (if Config.maxOrders ≤ p.orders.length then p.orders.tail else p.orders)
        = if p.orders.length < 4 then p.orders else p.orders.drop 1 := by
      by_cases h4 : p.orders.length < 4
      · rw [if_pos h4, if_neg (by simp only [Config.maxOrders]; omega)]
      · rw [if_neg h4, if_pos (by simp only [Config.maxOrders]; omega), List.drop_one]
    unfold DrivePort.place
    rw [hl]
    cases o <;> rfl
  rw [h]
  unfold DrivePort.start portAfter
  generalize (if o = .stop then [] else if p.orders.length < 4 then p.orders else p.orders.drop 1) ++ [o] = waiting
  obtain ⟨receiver, orders, counter, sending⟩ := p
  cases sending <;> cases waiting <;> rfl
/-- An order issued changes its loader's drive port only. -/
theorem State.issue_keeps (s : State) (l : Loader) (o : Order) : s.keeps (s.issue l o) [.port l] := s.withPort_keeps l _

/-! ### Pins and the replacement pointer (R39, R42) -/

/-- A released entry is the one that the rule writes out. -/
theorem CacheEntry.release_eq (e : CacheEntry) (l : Loader) : e.release l = releasedAs l e := by
  cases e <;> rfl
/-- The release of a loader's pin rewrites the entries by that rule and nothing else. -/
theorem State.releasePin_eq (s : State) (l : Loader) :
    s.releasePin l = s.withCache ⟨s.cache.entries.map (releasedAs l), s.cache.pointer⟩ := by
  simp [State.releasePin, CacheEntry.release_eq]
/-- Every lookup advances the pointer. -/
theorem State.advancePointer_eq (s : State) : s.advancePointer = s.pointerMoved := rfl
/-- A release touches the Window Cache only. -/
theorem State.releasePin_keeps (s : State) (l : Loader) : s.keeps (s.releasePin l) [.cache] := s.withCache_keeps _

/-! ### The taking of a request (R157, R159) -/

/-- The answer takes the first reserved place of an output queue. -/
theorem fillReserved_append (f : OutFrame) (tag : Byte) (pre post : List OutFrame)
    (h : (pre.all fun g => !g.isReserved) = true) : fillReserved f (pre ++ .reserved tag :: post) = pre ++ f :: post := by
  induction pre with
  | nil => rfl
  | cons g rest ih =>
    simp only [List.all_cons, Bool.and_eq_true] at h
    cases g <;> simp_all [fillReserved, OutFrame.isReserved]
/-- A part without its main supply does nothing (log 15). -/
theorem State.powered_off (s : State) (act : State → Host.Outcome State Fault Refusal) (h : s.mainSupply = false) :
    s.powered act = .next s := by simp [State.powered, h]
theorem State.powered_on (s : State) (act : State → Host.Outcome State Fault Refusal) (h : s.mainSupply = true) :
    s.powered act = act s := by simp [State.powered, h]
/-- A request that its link takes at once is run. -/
theorem takeRequest_takes (k : Link) (tag : Byte) (i : Instr) (act : State → Reply) (s : State) (h : s.takes k) :
    takeRequest k tag i act s = runRequest k tag act s := by
  obtain ⟨h1, h2, h3, -⟩ := h
  simp [takeRequest, State.powered, h1, h2, h3]
/-- A request that its link takes at once answers DONE or a refusal over the state that its owning block leaves. -/
theorem takeRequest_next (k : Link) (tag : Byte) (i : Instr) (act : State → Reply) (s : State) (r : Reply)
    (h : s.takes k) (ha : act (s.placeFrame k (.reserved tag)) = r) (hs : r.stop = none) :
    takeRequest k tag i act s = .next (r.state.fill k (.answer tag r.code r.record)) := by
  rw [takeRequest_takes k tag i act s h]
  simp [runRequest, ha, hs]
/-- A request whose owning block changes nothing is answered and changes its link's output queue only. -/
theorem takeRequest_unchanged (k : Link) (tag : Byte) (i : Instr) (act : State → Reply) (s : State) (c : AnswerCode)
    (rec : AnswerRecord) (h : s.takes k)
    (ha : act (s.placeFrame k (.reserved tag)) = ⟨c, rec, s.placeFrame k (.reserved tag), none⟩) :
    takeRequest k tag i act s = .next (s.answered k tag c rec) := by
  rw [takeRequest_next k tag i act s _ h ha rfl]
  simp only [State.fill, State.answered, State.placeFrame, State.withLink_link, if_pos]
  rw [fillReserved_append _ _ _ _ h.2.2.2]
  simp [State.withLink]
/-- The answer of a request joins the output queue as the block's own changes leave it: ahead of the notices placed
after the reserved place. -/
theorem State.fill_link (s : State) (k : Link) (f : OutFrame) (tag : Byte) (r : LinkRecord) (fs : List OutFrame)
    (h : (r.output.all fun g => !g.isReserved) = true)
    (hs : s.link k = { r with output := r.output ++ .reserved tag :: fs }) :
    (s.fill k f).link k = { r with output := r.output ++ f :: fs } := by
  simp [State.fill, hs, fillReserved_append f tag r.output fs h]

end Sys2Proof.Machine
end

