-- ==== Sys2Proof/Laws/Flow.lean ====
section
/-! SUPPORT. Laws/Flow.lean: the frame of each shared operation of Flow.lean: the parts it may change, and that a booking keeps an
account balanced while its results lie in range. -/

namespace Sys2Proof.Machine

/-- The parts that the flow operations may change beside the wires. -/
def flowParts : List Part := [.plan, .gate, .weigh, .book]

/-! ### Accounts (R109, R110) -/

/-- A booking's result in its range is the exact one. -/
theorem fitMass_exact (draw field n : Nat) (h : n ≤ 4000000000) : fitMass draw field (n : Int) = n := by
  simp [fitMass, Config.maxMass]; omega
/-- A mass field never leaves its range (R107). -/
theorem fitMass_le (draw field : Nat) (exact : Int) : fitMass draw field exact ≤ 4000000000 := by
  unfold fitMass
  split
  · next h => simp only [Config.maxMass] at h; omega
  · exact Nat.lt_succ_iff.1 (Config.freeMass draw field exact).isLt
/-- The weighing booking keeps an account balanced while the weighed total and the in-transit mass stay in range. -/
theorem Account.weighIn_balanced (a : Account) (draw grain : Nat) (h : a.balanced)
    (h1 : a.weighed + (a.residue + grain) / 1000000 ≤ 4000000000) : (a.weighIn draw grain).balanced := by
  unfold Account.balanced at *
  have h2 := fitMass_exact draw 0 (a.weighed + (a.residue + grain) / 1000000) h1
  have h3 := fitMass_exact draw 1 (a.inTransit + (a.residue + grain) / 1000000) (by omega)
  push_cast at h2 h3
  simp only [Account.weighIn, Config.ppm]
  push_cast
  rw [h2, h3]
  omega
/-- The Return booking keeps an account balanced while its results stay in range. -/
theorem Account.giveBack_balanced (a : Account) (draw m : Nat) (h : a.balanced) (hm : m ≤ a.inTransit)
    (h1 : a.weighed ≤ 4000000000) : (a.giveBack draw m).balanced := by
  unfold Account.balanced at *
  have h2 := fitMass_exact draw 4 (a.returned + m) (by omega)
  have h3 := fitMass_exact draw 1 (a.inTransit - m) (by omega)
  push_cast [hm] at h2 h3
  simp only [Account.giveBack, Account.depart]
  rw [h2, h3]
  omega
/-- The Spill booking keeps an account balanced while its results stay in range. -/
theorem Account.spillOut_balanced (a : Account) (draw m : Nat) (h : a.balanced) (hm : m ≤ a.inTransit)
    (h1 : a.weighed ≤ 4000000000) : (a.spillOut draw m).balanced := by
  unfold Account.balanced at *
  have h2 := fitMass_exact draw 5 (a.spill + m) (by omega)
  have h3 := fitMass_exact draw 1 (a.inTransit - m) (by omega)
  push_cast [hm] at h2 h3
  simp only [Account.spillOut, Account.depart]
  rw [h2, h3]
  omega
/-- The resolution booking keeps an account balanced while its results stay in range. -/
theorem Account.resolve_balanced (a : Account) (draw m : Nat) (h : a.balanced) (hm : m ≤ a.inTransit)
    (h1 : a.weighed ≤ 4000000000) : (a.resolve draw m).balanced := by
  unfold Account.balanced at *
  have h2 := fitMass_exact draw 6 (a.unresolved + m) (by omega)
  have h3 := fitMass_exact draw 1 (a.inTransit - m) (by omega)
  push_cast [hm] at h2 h3
  simp only [Account.resolve, Account.depart]
  rw [h2, h3]
  omega
/-- A reset's transfer keeps an account balanced while Unresolved stays in range. -/
theorem Account.settle_balanced (a : Account) (draw : Nat) (h : a.balanced) (h1 : a.weighed ≤ 4000000000) :
    (a.settle draw).balanced := by
  unfold Account.balanced at *
  have h2 := fitMass_exact draw 6 (a.unresolved + a.inTransit) (by omega)
  push_cast at h2
  simp only [Account.settle]
  rw [h2]
  omega
/-- A booking changes the Bill Book only. -/
theorem State.bookOn_keeps (s : State) (lot : Option Nat) (f : Account → Nat → Account) : s.keeps (s.bookOn lot f) [.book] := by
  unfold State.bookOn
  split
  · exact s.withBook_keeps _
  · split
    · exact s.withBook_keeps _
    · exact s.keeps_refl _

/-! ### Lots and steps (R3, R24, R114) -/

/-- The closing of a lot changes the Bill Book, and raises its event. -/
theorem State.closeLot_keeps (s : State) (n : Nat) : s.keepsNotifying (s.closeLot n) [.book] := by
  unfold State.closeLot
  split
  · exact State.keepsNotifying_trans (State.keeps_mono (s.withBook_keeps _) (by simp)) (State.raise_keepsNotifying _ _ _)
  · exact s.keepsNotifying_refl _
theorem State.closeIfDue_keeps (s : State) (n : Nat) : s.keepsNotifying (s.closeIfDue n) [.book] := by
  unfold State.closeIfDue
  split
  · split
    · exact s.closeLot_keeps n
    · exact s.keepsNotifying_refl _
  · exact s.keepsNotifying_refl _
/-- A property of closing one lot carries over a list of lots. -/
theorem State.foldl_closeIfDue_keeps (l : List Nat) (s : State) :
    s.keepsNotifying (l.foldl State.closeIfDue s) [.book] := by
  induction l generalizing s with
  | nil => exact s.keepsNotifying_refl _
  | cons n rest ih => exact State.keepsNotifying_trans (s.closeIfDue_keeps n) (ih _)
/-- The closing test of every lot changes the Bill Book only, but for its events. -/
theorem State.closeLots_keeps (s : State) : s.keepsNotifying s.closeLots [.book] := State.foldl_closeIfDue_keeps _ s
/-- A change of a step's record changes the plan only. -/
theorem State.modifyStep_keeps (s : State) (id : Nat) (f : StepRecord → StepRecord) : s.keeps (s.modifyStep id f) [.plan] :=
  s.withPlan_keeps _
/-- A change of a step's state changes the plan, and the book by the closing test. -/
theorem State.changeStep_keeps (s : State) (id : Nat) (f : StepRecord → StepRecord) :
    s.keepsNotifying (s.changeStep id f) [.plan, .book] :=
  State.keepsNotifying_trans (State.keepsNotifying_trans (State.keeps_mono (s.modifyStep_keeps id f) (by simp))
    (State.raise_keepsNotifying _ _ _)) (State.keepsNotifying_mono (State.closeLots_keeps _) (by simp))
/-- A change made on one part is one of the flow. -/
theorem State.keeps_flow {s t : State} {p : Part} (h : s.keeps t [p]) (hp : p ∈ flowParts) : s.keepsNotifying t flowParts :=
  State.keeps_mono h fun q hq => by
    rw [List.mem_singleton.1 hq]
    exact List.mem_append_left _ hp
theorem State.changeStep_flow (s : State) (id : Nat) (f : StepRecord → StepRecord) :
    s.keepsNotifying (s.changeStep id f) flowParts := State.keepsNotifying_mono (s.changeStep_keeps id f) (by simp [flowParts])
theorem State.clearTag_flow (s : State) : s.keepsNotifying s.clearTag flowParts :=
  State.keepsNotifying_trans (State.keeps_flow (s.withPlan_keeps _) (by simp [flowParts]))
    (State.keeps_flow (State.withWeigh_keeps _ _) (by simp [flowParts]))
theorem State.clearTagOf_flow (s : State) (id : Nat) : s.keepsNotifying (s.clearTagOf id) flowParts := by
  unfold State.clearTagOf
  split
  · exact s.clearTag_flow
  · exact s.keepsNotifying_refl _
theorem State.setRunOut_flow (s : State) (r : Option RunOut) : s.keepsNotifying (s.setRunOut r) flowParts :=
  State.keeps_flow (s.withPlan_keeps _) (by simp [flowParts])
/-- The end of a run-out changes flow parts only (R24). -/
theorem State.finishRunOut_flow (s : State) (r : RunOut) : s.keepsNotifying (s.finishRunOut r) flowParts := by
  unfold State.finishRunOut
  split
  · split
    · exact State.keepsNotifying_trans (State.keepsNotifying_trans (s.setRunOut_flow _) (State.clearTagOf_flow _ _))
        (State.changeStep_flow _ _ _)
    · exact s.keepsNotifying_refl _
  · exact s.keepsNotifying_refl _
theorem State.runOutTest_flow (s : State) : s.keepsNotifying s.runOutTest flowParts := by
  unfold State.runOutTest
  split
  · split
    · exact s.finishRunOut_flow _
    · exact s.keepsNotifying_refl _
  · exact s.keepsNotifying_refl _
theorem State.markRunOut_flow (s : State) : s.keepsNotifying s.markRunOut flowParts := by
  unfold State.markRunOut
  split
  · split
    · exact State.keepsNotifying_trans (s.setRunOut_flow _) (State.runOutTest_flow _)
    · exact s.keepsNotifying_refl _
  · exact s.keepsNotifying_refl _

/-! ### The demand and the suspension set (R19, R69) -/

theorem State.followDemand_flow (s : State) : s.keepsNotifying s.followDemand flowParts :=
  State.keeps_flow (s.withGate_keeps _) (by simp [flowParts])
/-- The demand formed again changes flow parts only. -/
theorem State.formDemand_flow (s : State) : s.keepsNotifying s.formDemand flowParts :=
  State.keepsNotifying_trans (State.keepsNotifying_trans s.followDemand_flow (State.markRunOut_flow _))
    (State.followDemand_flow _)
/-- The demand that an operation has just formed is the one its terms give. -/
theorem State.followDemand_demand (s : State) : s.followDemand.gate.demand = s.demandNow := by
  simp only [State.followDemand, State.withGate_gate, Gate.demanded]
  split
  · next h => exact h.symm
  · rfl
/-- The gate's output lines follow a demand formed again, when they followed it before (R72). -/
theorem Gate.demanded_lines (g : Gate) (d : GateDemand) (shut : Bool)
    (h : g.openLine = (g.demand != .closed) ∧ g.fullLine = (g.demand == .full)) :
    (g.demanded d shut).openLine = ((g.demanded d shut).demand != .closed)
      ∧ (g.demanded d shut).fullLine = ((g.demanded d shut).demand == .full) := by
  unfold Gate.demanded
  split
  · exact h
  · exact ⟨rfl, rfl⟩
theorem State.testAged_flow (s : State) : s.keepsNotifying s.testAged flowParts := by
  unfold State.testAged
  split
  · split
    · exact State.keepsNotifying_trans (State.raise_keepsNotifying _ _ _)
        (State.keeps_flow (State.withGate_keeps _ _) (by simp [flowParts]))
    · exact s.keepsNotifying_refl _
  · exact s.keepsNotifying_refl _
/-- A reason added changes flow parts only. -/
theorem State.addReason_flow (s : State) (r : Reason) : s.keepsNotifying (s.addReason r) flowParts := by
  unfold State.addReason
  split
  · split
    · exact State.keepsNotifying_trans (s.changeStep_flow _ _) (State.formDemand_flow _)
    · exact State.keeps_flow (s.modifyStep_keeps _ _) (by simp [flowParts])
  · exact s.keepsNotifying_refl _
theorem State.removeReason_flow (s : State) (r : Reason) : s.keepsNotifying (s.removeReason r) flowParts := by
  unfold State.removeReason
  split
  · exact State.keeps_flow (s.modifyStep_keeps _ _) (by simp [flowParts])
  · exact s.keepsNotifying_refl _
theorem State.loaderReason_flow (s old : State) : s.keepsNotifying (s.loaderReason old) flowParts := by
  unfold State.loaderReason
  split
  · split
    · exact s.addReason_flow _
    · split
      · exact s.removeReason_flow _
      · exact s.keepsNotifying_refl _
  · exact s.keepsNotifying_refl _
theorem State.dustReason_flow (s old : State) : s.keepsNotifying (s.dustReason old) flowParts := by
  unfold State.dustReason
  split
  · split
    · exact s.addReason_flow _
    · split
      · exact s.removeReason_flow _
      · exact s.keepsNotifying_refl _
  · exact s.keepsNotifying_refl _

/-- The LOADER reason after a change, in full: added when the running step loses its loader, removed when it has it back. -/
theorem State.loaderReason_eq (s old : State) (st : StepRecord) (h : s.running? = some st) :
    s.loaderReason old =
      if losesLoader old s st then s.addReason .loader
      else if !old.ready st && s.ready st then s.modifyStep st.id fun q => { q with suspension := q.suspension.put .loader false }
      else s := by
  simp [State.loaderReason, State.removeReason, h]
/-- Without a running step the LOADER reason is nobody's. -/
theorem State.loaderReason_none (s old : State) (h : s.running? = none) : s.loaderReason old = s := by
  simp [State.loaderReason, h]
/-- The DUST reason after a change, in full: added when the running step's restriction becomes STOP, removed when it ceases to be. -/
theorem State.dustReason_eq (s old : State) (st : StepRecord) (h : s.running? = some st) :
    s.dustReason old =
      if s.dustOf st.loader = .stop ∧ old.dustOf st.loader ≠ .stop then s.addReason .dust
      else if s.dustOf st.loader ≠ .stop ∧ old.dustOf st.loader = .stop then
        s.modifyStep st.id fun q => { q with suspension := q.suspension.put .dust false }
      else s := by
  simp only [State.dustReason, State.removeReason, h]
/-- Without a running step the DUST reason is nobody's. -/
theorem State.dustReason_none (s old : State) (h : s.running? = none) : s.dustReason old = s := by
  simp [State.dustReason, h]
/-- A step asks of its loader and of the diverter what the rule writes out (R19). -/
theorem State.ready_iff_pours (s : State) (st : StepRecord) : s.ready st = true ↔ s.pours st := by
  simp [State.ready, State.pours, State.isLowered, State.pinnedTo, State.diverterAt, and_assoc]

/-! ### Cut-off, parcels and the entry to feeding (R13, R24, R95, R103) -/

theorem State.retireOlder_flow (s : State) (id : Nat) : s.keepsNotifying (s.retireOlder id) flowParts := by
  unfold State.retireOlder
  split
  · split
    · exact s.keepsNotifying_refl _
    · exact s.finishRunOut_flow _
  · exact s.keepsNotifying_refl _
theorem State.clearTrimOf_flow (s : State) (id : Nat) : s.keepsNotifying (s.clearTrimOf id) flowParts := by
  unfold State.clearTrimOf
  split
  · exact State.keeps_flow (s.withWeigh_keeps _) (by simp [flowParts])
  · exact s.keepsNotifying_refl _
/-- The entry of a step to CUTOFF changes flow parts only. -/
theorem State.enterCutoff_flow (s : State) (id : Nat) (c : EndCause) : s.keepsNotifying (s.enterCutoff id c) flowParts :=
  State.keepsNotifying_trans (State.keepsNotifying_trans (State.keepsNotifying_trans (State.keepsNotifying_trans
    (State.keepsNotifying_trans (s.retireOlder_flow id) (State.setRunOut_flow _ _)) (State.changeStep_flow _ _ _))
      (State.clearTrimOf_flow _ _)) (State.markRunOut_flow _)) (State.formDemand_flow _)
theorem State.reportCutoff_flow (s : State) (st : StepRecord) (c : EndCause) :
    s.keepsNotifying (s.reportCutoff st c) flowParts := by
  unfold State.reportCutoff
  split
  · exact s.enterCutoff_flow _ _
  · exact s.keepsNotifying_refl _
/-- The evaluation changes flow parts only. -/
theorem State.evaluate_flow (s : State) : s.keepsNotifying s.evaluate flowParts := by
  have hw : ∀ (t : State) (w : Weigh), t.keepsNotifying (t.withWeigh w) flowParts :=
    fun t w => State.keeps_flow (t.withWeigh_keeps w) (by simp [flowParts])
  unfold State.evaluate
  split
  · exact s.keepsNotifying_refl _
  · simp only
    split
    · exact State.keepsNotifying_trans (State.keepsNotifying_trans (hw s _) (State.reportCutoff_flow _ _ _))
        (State.formDemand_flow _)
    · exact State.keepsNotifying_trans (State.keepsNotifying_trans (hw s _) (hw _ _)) (State.formDemand_flow _)
theorem State.placeParcel_flow (s : State) (p : Parcel) : s.keepsNotifying (s.placeParcel p) flowParts := by
  have hw : ∀ (t : State) (w : Weigh), t.keepsNotifying (t.withWeigh w) flowParts :=
    fun t w => State.keeps_flow (t.withWeigh_keeps w) (by simp [flowParts])
  unfold State.placeParcel
  split
  · simp only
    split
    · exact State.keepsNotifying_trans (State.keepsNotifying_trans (hw s _) (State.addReason_flow _ _))
        (State.formDemand_flow _)
    · exact hw s _
  · have hr : s.keepsNotifying (((s.bookOn p.lot fun a n => a.resolve n p.mass).raise
        (.equipmentFault .queue)).evaluate) flowParts :=
      State.keepsNotifying_trans (State.keepsNotifying_trans
        (State.keeps_flow (s.bookOn_keeps _ _) (by simp [flowParts])) (State.raise_keepsNotifying _ _ _))
        (State.evaluate_flow _)
    split
    · split
      · exact hw s _
      · exact hr
    · first
      | exact hw s _
      | exact hr
/-- The closing of the open parcel changes flow parts only. -/
theorem State.closeParcel_flow (s : State) : s.keepsNotifying s.closeParcel flowParts := by
  unfold State.closeParcel
  split
  · exact s.keepsNotifying_refl _
  · exact State.keepsNotifying_trans (State.keepsNotifying_trans (State.keepsNotifying_trans (State.keepsNotifying_trans
      (State.keeps_flow (s.withWeigh_keeps _) (by simp [flowParts])) (State.placeParcel_flow _ _))
        (State.runOutTest_flow _)) (State.keepsNotifying_mono (State.closeLots_keeps _) (by simp [flowParts])))
          (State.formDemand_flow _)
/-- The entry of a step to feeding changes flow parts only. -/
theorem State.enterFeeding_flow (s : State) (id : Nat) (g : ReasonSet) : s.keepsNotifying (s.enterFeeding id g) flowParts :=
  State.keepsNotifying_trans (State.keepsNotifying_trans (State.keepsNotifying_trans (State.keepsNotifying_trans
    (State.keepsNotifying_trans (State.keeps_flow (s.withPlan_keeps _) (by simp [flowParts])) (State.closeParcel_flow _))
      (State.changeStep_flow _ _ _)) (State.testAged_flow _)) (State.evaluate_flow _)) (State.formDemand_flow _)

end Sys2Proof.Machine
end

