-- ==== Sys2Proof/Laws/Tick.lean ====
section
/-! SUPPORT. Laws/Tick.lean: what one millisecond counts, in the terms of Safety.lean, and the frames of a line's sample and of
the pieces of a reading that leave the state alone. -/

namespace Sys2Proof.Machine

/-! ### Samples (R139) -/

/-- A raw level that changes is held in the line records only. -/
theorem State.showLevel_keeps (s : State) (i : Nat) (high : Bool) : s.keeps (s.showLevel i high) [.lines] :=
  s.withLines_keeps _
/-- A sample is noted in the line records only. -/
theorem State.noteSample_keeps (s : State) (i : Nat) (high : Bool) : s.keeps (s.noteSample i high) [.lines] :=
  s.withLines_keeps _
/-- A line that is not to be sampled at this reading is left alone. -/
theorem State.takeSample_rest (s : State) (i : Nat) (h : s.sampling i = false) : s.takeSample i = s := by
  simp [State.takeSample, h]

/-! ### Counting (R15, R32, R62, R160) -/

/-- A level's age counts as the rule states. -/
theorem LevelRecord.counted_eq_later (r : LevelRecord) : r.counted = r.later := by
  unfold LevelRecord.counted LevelRecord.later Config.maxLevelAge
  by_cases h : 3600 ≤ r.age
  · simp [h]
  · by_cases h2 : r.subMs < 999
    · have : ¬ 1000 ≤ r.subMs + 1 := by omega
      simp [h, h2, this]
    · have : 1000 ≤ r.subMs + 1 := by omega
      simp [h, h2, this]
/-- A loader's timers and its report age count as the rules state. -/
theorem LoaderRecord.counted_eq_later (r : LoaderRecord) : r.counted = r.later := by
  cases h : r.lastReport <;> simp [LoaderRecord.counted, LoaderRecord.later, h, countDown, msLess, Config.maxReportAge]
/-- A link's silence counts as the rule states. -/
theorem LinkRecord.counted_eq_later (r : LinkRecord) : r.counted = r.later := rfl
/-- The reading that ends and the reading that begins differ by 1 ms, and no line has been sampled at the latter. -/
theorem State.counted_clock (s : State) :
    s.counted.timeBase = s.timeBase + 1 ∧ s.counted.lines = { s.lines with sampled := List.replicate 16 false }
      ∧ s.counted.pending = s.pending ∧ s.counted.book = s.book ∧ s.counted.weigh = s.weigh ∧ s.counted.cache = s.cache
      ∧ s.counted.ports = s.ports ∧ s.counted.notices = s.notices := ⟨rfl, rfl, rfl, rfl, rfl, rfl, rfl, rfl⟩

/-! ### Expiries (R15, R71, R74, R80, R128) -/

/-- Without a window nothing lapses. -/
theorem State.fireWindow_none (s : State) (h : s.plan.window = none) : s.fireWindow = s := by simp [State.fireWindow, h]
/-- A closure timer that has not ended leaves the state alone. -/
theorem State.fireClosure_rest (s : State) (h : s.gate.timer ≠ some 0) : s.fireClosure = s := by simp [State.fireClosure, h]
/-- A move timer that has not ended leaves the state alone. -/
theorem State.fireMove_rest (s : State) (h : s.diverter.timer ≠ some 0) : s.fireMove = s := by simp [State.fireMove, h]
/-- A purge timer that has not ended leaves the state alone. -/
theorem State.firePurge_rest (s : State) (z : Zone) (h : (s.dust.get z).timer ≠ some 0) : s.firePurge z = s := by
  simp [State.firePurge, h]
/-- The expiry of history times touches its zone only (R126). -/
theorem State.historyExpired_keeps (s : State) (z : Zone) : s.keeps (s.historyExpired z) [.zone z] := s.withZone_keeps z _
/-- A time stays in a zone's history exactly while it is not older than 1,800 s by the time base (R126). -/
theorem State.mem_historyExpired (s : State) (z : Zone) (t : Word) :
    t ∈ ((s.historyExpired z).dust.get z).history ↔ t ∈ (s.dust.get z).history ∧ (s.timeBase - t).toNat ≤ 1800000 := by
  have h : ((s.historyExpired z).dust.get z).history =
      (s.dust.get z).history.filter fun t => decide ((s.timeBase - t).toNat ≤ Config.historyAge) := by
    cases z <;> rfl
  rw [h, List.mem_filter, decide_eq_true_iff]
  rfl
/-- Without its main supply the part does not tick (log 15). -/
theorem State.tick_off (s : State) (h : s.mainSupply = false) : s.tick = s := by simp [State.tick, h]

end Sys2Proof.Machine
end

