-- ==== Sys2Proof/Tests/Slice0.lean ====
section
/-! SUPPORT. Tests/Slice0.lean: the WellFormed smoke, request bodies and frames written out from R152 and R154, worked examples of
the spec on one step each, and for every obligation with hypotheses a witness: concrete values that meet them together. -/

namespace Sys2Proof.Machine

/-! ### Well-formedness: one ill-formed command for each check -/

theorem test_wf_byte : (Instr.lower 0 256).wellFormed = false := by decide
theorem test_wf_half : (Instr.consentConfig 0 65536).wellFormed = false := by decide
theorem test_wf_word : (Instr.mooring 0 4294967296 0 0).wellFormed = false := by decide
theorem test_wf_signed : (Instr.level 0 1 32768).wellFormed = false := by decide
theorem test_wf_signed_low : (Instr.level 0 1 (-32769)).wellFormed = false := by decide
theorem test_wf_optional_byte : (Instr.stepInsert 0 (some 256) 1 0 1 1 100 false).wellFormed = false := by decide
theorem test_wf_optional_word : (Instr.lotOpen 0 1 [65] (some 4294967296)).wellFormed = false := by decide
theorem test_wf_bytes : (Instr.routeSet .terminal 0 [256]).wellFormed = false := by decide
set_option maxRecDepth 8000 in
theorem test_wf_text_length : (Instr.lotOpen 0 1 (List.replicate 234 65) none).wellFormed = false := by decide
set_option maxRecDepth 8000 in
theorem test_wf_list_length : (Instr.routeSet .terminal 0 (List.replicate 240 1)).wellFormed = false := by decide
theorem test_wf_point : (Instr.hatchDefine 0 1 0 2000 0 2000 [⟨50, 256⟩]).wellFormed = false := by decide
theorem test_wf_points_length : (Instr.hatchDefine 0 1 0 2000 0 2000 (List.replicate 114 ⟨50, 50⟩)).wellFormed = false := by
  decide
theorem test_wf_hold : (Instr.levelAgeExpiry 13).wellFormed = false := by decide
theorem test_wf_report : (Instr.positionReport .l1 .ready 0 65536).wellFormed = false := by decide

/-! ### Frames and bodies, written out from R152 and R154 -/

set_option maxRecDepth 8000 in
/-- The check of the nine bytes "123456789" for polynomial 0x1021, initial value 0xFFFF, unreflected (R152): the published
value of that check. -/
theorem test_crc_check_value :
    crc16 [0x31#8, 0x32#8, 0x33#8, 0x34#8, 0x35#8, 0x36#8, 0x37#8, 0x38#8, 0x39#8] = 0x29B1#16 := by decide
/-- LEVEL of hold 3 at -2 mm: the hold, then two bytes of two's complement, high byte first. -/
theorem test_body_level : decodeRequest .vessel 9 26 [0x03#8, 0xFF#8, 0xFE#8] = some (.level 9 3 (-2)) := by decide
/-- MOORING at 100,000 mm, fender 500 mm, BOW_DOWNSTREAM: four bytes, two bytes, one byte. -/
theorem test_body_mooring :
    decodeRequest .terminal 9 1 [0x00#8, 0x01#8, 0x86#8, 0xA0#8, 0x01#8, 0xF4#8, 0x01#8] = some (.mooring 9 100000 500 1) := by
  decide
/-- STEP_INSERT before step 2, hold 3, point 1, loader 2, lot 8, 5,000 kg, consent required. -/
theorem test_body_stepInsert :
    decodeRequest .vessel 9 27 [1#8, 2#8, 3#8, 1#8, 2#8, 8#8, 0#8, 0#8, 0x13#8, 0x88#8, 1#8] =
      some (.stepInsert 9 (some 2) 3 1 2 8 5000 true) := by decide
/-- LOT_OPEN of lot 2, reference "AB", no ordered quantity. -/
theorem test_body_lotOpen : decodeRequest .survey 9 40 [2#8, 2#8, 0x41#8, 0x42#8, 0#8] = some (.lotOpen 9 2 [65, 66] none) := by
  decide
theorem test_body_too_long : decodeRequest .terminal 9 3 [0#8] = none := by decide
theorem test_body_bad_flag : decodeRequest .terminal 9 21 [0#8, 0#8, 2#8, 0#8] = none := by decide
theorem test_entitled : entitled .survey 43 = false ∧ entitled .vessel 43 = true ∧ entitled .vessel 23 = false := by decide
theorem test_table_word : decodeTableWord 8 0x7E = none ∧ State.reset.withFetchWord 8 0x7E = State.reset := by decide

/-- FETCH_EVENTS answers the pending set as a set of codes, then its entries (R167); a CLOSING part without a record is the lot
state, then an absence (R117). -/
theorem test_answer_bytes :
    AnswerRecord.bytes (.events [⟨.linkLost .vessel, 2⟩]) =
        [1#8, BitVec.ofNat 8 (Event.linkLost .vessel).code, 1#8, BitVec.ofNat 8 (Event.linkLost .vessel).code, 1#8, 2#8]
      ∧ AnswerRecord.bytes (.bookNotClosed .opened) = [BitVec.ofNat 8 LotState.opened.number, 0#8] := by decide

/-! ### Reset -/

/-- The state after reset is what a retained clear with the lines low and the strap open makes of it (log 1). -/
theorem test_reset_is_clear : State.retainedClear State.reset 0 false .clearBank = State.reset := by decide

/-! ### Worked examples of the spec, one step each -/

/-- The ship of the example in 02 section 2.5: stern mark 40,000 mm, fender offset 1,200 mm, holds 3 and 4. -/
def exampleShip (o : Orientation) : State :=
  State.reset.withHatch
    { State.reset.hatch with
      mooring := some ⟨40000, 1200, o⟩
      holds := (State.reset.hatch.holds.set 2 (some ⟨52000, 64000, 1500, 10500, [⟨25, 25⟩, ⟨75, 50⟩, ⟨25, 50⟩]⟩)).set 3
        (some ⟨66000, 75333, 2000, 9777, [⟨40, 30⟩]⟩) }
theorem test_translate_floor : (exampleShip .bowUpstream).translate ⟨4, 0⟩ = .found ⟨109733, 5533⟩ := by decide
theorem test_translate_reach : (exampleShip .bowDownstream).translate ⟨3, 2⟩ = .outOfReach (-15000) 7200 := by decide
/-- 05 R89: at belt position 4 mm after a wrap the distance since 4,294,967,000 mm is 300 mm. -/
theorem test_distance_wraps :
    (State.reset.withWeigh { State.reset.weigh with position := 4 }).distanceSince 4294967000 = 300 := by decide
/-- 05 section 5.3's example of a span below unity, the third increment: residue 900,000 and 1 kg become 850,000 and 2 kg. -/
theorem test_third_increment :
    let a := { Account.zero with residue := 900000, weighed := 1, inTransit := 1 }.weighIn 0 (1 * 950000)
    a.residue = 850000 ∧ a.weighed = 2 := by decide
/-- 03's example of claims: L1 from 40,000 mm to 95,000 mm and L2 from 120,000 mm to 109,733 mm leave a gap of 8,733 mm. -/
theorem test_claim_gap : claimGapOf (travelClaim 40000 95000) (travelClaim 120000 109733) = 8733 := by decide
/-- 08's example of orders around a fault: a STOP issued behind a renewed LOWER removes it. -/
theorem test_stop_removes_lower :
    ((DrivePort.mk .hunting [.lower 4100] 213 (some (212, .lower 4500))).place .stop).start =
      ⟨.hunting, [.stop], 213, some (212, .lower 4500)⟩ := by decide
/-- 08's example of a latched stop: the third low sample of line 14 changes its filtered level and asserts the condition. -/
theorem test_falling_edge_latches :
    (State.sampleLine (State.reset.withLine 14 ⟨.falling, true, 3, true, 2, false⟩) 14 false).line 14 =
      ⟨.falling, true, 3, false, 0, true⟩ := by decide
/-- 07's example of the belt gallery: at the third time within 1,800 s the zone is locked out and its history emptied. -/
theorem test_third_alarm_locks :
    (ZoneRecord.mk .clear none 300 [900000, 1950000]).alarmed 2600000 = ⟨.lockout, none, 300, []⟩ := by decide

/-- ALARM_HISTORY_EXPIRY removes the times older than 1,800 s by the time base and keeps one of exactly that age (R126). -/
theorem test_history_by_age :
    (State.historyExpired { State.reset.withZone .z2 ⟨.clear, none, 120, [999, 1000]⟩ with timeBase := 1801000 } .z2).dust.get .z2 =
      ⟨.clear, none, 120, [1000]⟩ := by decide

/-! ### A part in the middle of a pour -/

/-- Sixteen lines at their defaults, those of a list high and asserted. -/
def linesAt (high : List Nat) : FieldLines :=
  ⟨(List.range 16).map fun i => ⟨.high, true, 3, high.contains i, 0, high.contains i⟩, false,
    (List.range 16).map fun i => high.contains i, List.replicate 16 false⟩
/-- A zone in CLEAR. -/
def clearZone : ZoneRecord := ⟨.clear, none, 120, []⟩
/-- A link that is UP, with a request queue and an output queue. -/
def linkUp (requests : List Instr) (output : List OutFrame) : LinkRecord :=
  ⟨true, some 0, .hunting, requests, output, .marking, true⟩
/-- The pour's step. -/
def pourStep : StepRecord := ⟨1, 3, 0, .l1, 1, 5000, false, true, .feeding, 0, ReasonSet.none, none, false⟩
/-- The step behind it, by L2, with consent required. -/
def nextStep : StepRecord := ⟨2, 5, 0, .l2, 1, 5000, true, true, .pending, 0, ReasonSet.none, none, false⟩
/-- Loader 1 lowered at hold 3's first pour point. -/
def loweredL1 : LoaderRecord :=
  ⟨.lowered, none, some ⟨127000, 133000⟩, some ⟨130000, 7500⟩, some 7000, some ⟨130000, 7500, .ready⟩, 0, 0, none, none⟩
/-- Loader 2 idle upstream. -/
def idleL2 : LoaderRecord :=
  ⟨.idle, none, some ⟨197000, 203000⟩, none, none, some ⟨200000, 7500, .ready⟩, 0, 0, none, none⟩
/-- A part that pours step 1 with loader 1 into hold 3. -/
def pouring : State :=
  { State.reset with
    plan := ⟨.accepted, [pourStep, nextStep], 3, [], some 1, none, none, 60⟩
    hatch :=
      { State.reset.hatch with
        holds := [none, none, some ⟨20000, 40000, 4000, 10000, [⟨50, 50⟩]⟩, none,
          some ⟨80000, 100000, 4000, 10000, [⟨50, 50⟩]⟩, none, none, none, none, none, none, none]
        levels := (List.replicate 12 none).set 2 (some ⟨9000, 5, 0⟩)
        mooring := some ⟨100000, 500, .bowUpstream⟩ }
    cache :=
      ⟨[.pinned ⟨3, 0⟩ ⟨130000, 7500⟩ .l1, .valid ⟨5, 0⟩ ⟨190000, 7500⟩] ++ List.replicate 6 .invalid, 7⟩
    loaders := ⟨loweredL1, idleL2⟩
    gate := ⟨.full, .opened, none, false, none, true, true⟩
    diverter := ⟨.atL1, some .l1, none, false, true, false, false⟩
    weigh :=
      { State.reset.weigh with
        metrology := ⟨10, 1000000, true⟩
        position := 1000
        openParcel := some ⟨6, some 1, some 1, 40, 500⟩
        queue := [⟨5, some 1, some 1, 200, 100⟩]
        seqCounter := 7 }
    book :=
      { State.reset.book with
        lots := State.reset.book.lots.set 0 ⟨.opened, some [65], none, { Account.zero with weighed := 240, inTransit := 240 }, none⟩ }
    dust := ⟨clearZone, clearZone, clearZone⟩
    lines := linesAt [1, 10, 13]
    links := ⟨linkUp [] [], linkUp [] [], linkUp [] []⟩ }
/-- The same part with the step in another state and set, the gate demand CLOSED and the gate closing. -/
def paused (st : StepRecord) : State :=
  { pouring with
    plan := { pouring.plan with steps := [st, nextStep] }
    gate := ⟨.closed, .closing, some 5000, false, none, false, false⟩ }
/-- The part before the pour: the step PENDING, nothing on the belt, the gate closed. -/
def waiting : State :=
  { pouring with
    plan := ⟨.accepted, [{ pourStep with state := .pending }, nextStep], 3, [], none, none, none, 60⟩
    gate := ⟨.closed, .closed, none, false, none, false, false⟩
    weigh := { pouring.weigh with openParcel := none, queue := [] }
    book := { State.reset.book with lots := State.reset.book.lots.set 0 ⟨.opened, some [65], none, Account.zero, none⟩ }
    lines := linesAt [1, 10, 13, 15] }
/-- A step answers a next state. -/
def completes (s : State) : Bool :=
  match step s with
  | .next _ => true
  | _ => false

/-- The pouring part with its lot in CLOSING. -/
def pourClosing : State :=
  { pouring with
    book :=
      { pouring.book with
        lots :=
          pouring.book.lots.set 0
            ⟨.closing, some [65], none, { Account.zero with weighed := 240, inTransit := 240 }, none⟩ } }

theorem witness_invariants_feed : pouring.feedSound ∧ completes (pouring.withPending [.feedReset 1]) = true := by decide
theorem witness_invariants_dust : pouring.dustSound ∧ completes (pouring.withPending [.dustReset 1 1]) = true := by decide
theorem witness_invariants_pins : pouring.pinsSound ∧ completes (pouring.withPending [.stop 1 2]) = true := by decide
theorem witness_invariants_demand :
    pouring.withinCapacity ∧ pouring.demandSound ∧ completes (pouring.withPending [.hold 1]) = true := by decide
theorem witness_invariants_capacity : pouring.withinCapacity ∧ completes pouring = true := by decide
theorem witness_invariants_plan : pouring.planSound ∧ pouring.marked ∧ completes (pouring.withPending [.stepStop 1 1]) = true := by decide
theorem witness_invariants_closing :
    pourClosing.planSound ∧ pourClosing.bookSound ∧ pourClosing.hasHeadroom ∧ pourClosing.closingsSettled = true
      ∧ completes (pourClosing.withPending [.increment]) = true := by decide
theorem witness_invariants_book :
    pouring.planSound ∧ pouring.bookSound ∧ pouring.hasHeadroom ∧ completes (pouring.withPending [.increment]) = true := by decide

/-! ### The passing of time -/

/-- A part whose links hold no request is without a request to take. -/
theorem noRequest_of_empty (s : State) (h1 : (s.link .terminal).requests = []) (h2 : (s.link .vessel).requests = [])
    (h3 : (s.link .survey).requests = []) : s.noRequest := fun k => by
  cases k
  · exact .inl h1
  · exact .inl h2
  · exact .inl h3
theorem pouring_idles : pouring.idles := ⟨rfl, rfl, noRequest_of_empty _ rfl rfl rfl⟩
theorem pouring_linesRest : pouring.linesRest := ⟨rfl, by decide⟩
theorem witness_TimePasses : pouring.idles ∧ pouring.linesRest ∧ pouring.uneventful := by
  refine ⟨pouring_idles, pouring_linesRest, ?_, fun w h => (nomatch h), fun l => ?_, fun l n h => ?_, fun n h => ?_,
    fun z n h => ?_, fun k n h => ?_⟩
  · intro h r hr
    have hm : ∀ q ∈ pouring.hatch.levels.filterMap id, q.age ≠ 600 := by decide
    refine .inl (hm r (List.mem_filterMap.2 ⟨some r, ?_, rfl⟩))
    unfold State.level? slot? at hr
    split at hr
    · cases hr
    · exact List.mem_of_getElem? (Option.join_eq_some_iff.1 hr)
  · cases l <;> decide
  · cases l <;> rcases h with h | h <;> cases h
  · rcases h with h | h <;> cases h
  · cases z <;> cases h
  · cases k <;> (rw [← Option.some.inj h]; decide)
/-- A part in which a travel, a spout, the closure, the move and a purge timer and the silence timers end at the next
reading. -/
def ending : State :=
  { waiting with
    loaders :=
      ⟨{ loweredL1 with state := .travel, travelTimer := some 1 }, { idleL2 with state := .raising, spoutTimer := some 1 }⟩
    gate := ⟨.closed, .closing, some 1, false, none, false, false⟩
    diverter := ⟨.moving, none, some 1, false, false, false, false⟩
    dust := ⟨⟨.purge, some 1, 120, []⟩, clearZone, clearZone⟩
    lines := linesAt [13]
    links := ⟨{ linkUp [] [] with silence := some 1999 }, { linkUp [] [] with silence := some 1999 }, linkUp [] []⟩ }
theorem ending_linesRest : ending.linesRest := ⟨rfl, by decide⟩
theorem ending_feedSound : ending.feedSound := by decide
theorem ending_demandSound : ending.demandSound := by decide
theorem witness_TimersExpire :
    ending.noticesShaped ∧ ending.planSound ∧ (ending.loader .l1).state = .travel ∧ (ending.loader .l1).travelTimer = some 1
      ∧ (ending.loader .l1).reportAge < 999 ∧ (ending.loader .l2).state = .raising ∧ (ending.loader .l2).spoutTimer = some 1 := by
  decide
theorem witness_TimersExpire_others :
    ending.gate.timer = some 1 ∧ ending.diverter.timer = some 1 ∧ (ending.dust.get .z1).timer = some 1
      ∧ (ending.link .terminal).up = true ∧ (ending.link .terminal).silence = some 1999 := by decide
theorem witness_TimersExpire_idles : ending.idles := ⟨rfl, rfl, noRequest_of_empty _ rfl rfl rfl⟩
/-- The pouring part with a level about to pass 600 s and loader 1's drive about to be lost. -/
def losing : State :=
  { pouring with
    hatch := { pouring.hatch with levels := pouring.hatch.levels.set 2 (some ⟨9000, 600, 999⟩) }
    loaders := ⟨{ loweredL1 with reportAge := 999 }, idleL2⟩ }
theorem losing_linesRest : losing.linesRest := ⟨rfl, by decide⟩
theorem losing_feedSound : losing.feedSound := by decide
theorem losing_demandSound : losing.demandSound := by decide
theorem losing_idles : losing.idles := ⟨rfl, rfl, noRequest_of_empty _ rfl rfl rfl⟩
theorem witness_TimersExpire_losing :
    losing.noticesShaped ∧ losing.planSound ∧ (losing.loader .l1).lastReport ≠ none ∧ 999 ≤ (losing.loader .l1).reportAge
      ∧ (losing.loader .l1).state ≠ .fault ∧ losing.level? 3 = some ⟨9000, 600, 999⟩ ∧ losing.feeding? = some pourStep := by
  decide
theorem witness_TimersExpire_closure : losing.gate.agedMark ≠ some pourStep.id ∧ losing.gate.state = .opened := by decide
set_option maxRecDepth 60000 in
/-- A closure timer that starts at a reading, by the drive's loss found there, has its whole 10 s (R62, R73). -/
theorem test_closure_runs_whole :
    (match step { losing with hatch := pouring.hatch } with
      | .next t => t.gate.state == .closing && t.gate.timer == some 10000 && (t.loader .l1).cause == some .driveLost
      | _ => false) = true := by decide
/-- A line with exponent 3 is sampled at reading 8 and not at reading 9, whatever arrives there (R139). -/
theorem test_sample_by_exponent :
    ({ pouring with timeBase := 8 }).sampling 14 = true ∧ ({ pouring with timeBase := 9 }).sampling 14 = false
      ∧ (match exec (.lineSample 14 true) { pouring with timeBase := 9 } with
        | .next t => (t.line 14).runCount == 0 && t.rawHigh 14
        | _ => false) = true
      ∧ (match exec (.lineSample 14 true) { pouring with timeBase := 8 } with
        | .next t => (t.line 14).runCount == 1 && !t.sampling 14
        | _ => false) = true := by decide
set_option maxRecDepth 60000 in
/-- An idle part samples a line that shows another level at each multiple of its period (R139). -/
theorem test_idle_samples :
    (match step { pouring with lines := { pouring.lines with raw := pouring.lines.raw.set 14 true } } with
      | .next t => (t.line 14).runCount == 1
      | _ => false) = true := by decide

/-! ### Witnesses of the other statements -/

theorem witness_StepRunsFrontCommand :
    (pouring.withPending [.hold 1, .increment]).pending = .hold 1 :: [.increment] := rfl
theorem witness_QueueAndSupplyKept : ∃ t : State, exec (.orderFrameSent .l1) pouring = .next t := ⟨pouring, by rfl⟩
theorem witness_CommandsComplete : (paused { pourStep with state := .suspended }).pinsSound := by decide
theorem witness_QueueAndSupplyKept_supply :
    { pouring with mainSupply := false }.mainSupply = false ∧ (∀ raw strap, Instr.hold 1 ≠ .powerOn raw strap)
      ∧ Instr.hold 1 ≠ .bkokDeasserted ∧ pouring.mainSupply = true :=
  ⟨rfl, fun _ _ h => Instr.noConfusion h, fun h => Instr.noConfusion h, rfl⟩

theorem witness_RequestBodyRoundTrip :
    (Instr.lotOpen 7 8 [65, 126] (some 50000000)).wellFormed = true ∧ requestCode (.lotOpen 7 8 [65, 126] (some 50000000)) = some 40
      ∧ requestTag (.lotOpen 7 8 [65, 126] (some 50000000)) = some 7
      ∧ (requestLink (.lotOpen 7 8 [65, 126] (some 50000000))).all (fun j => j == .survey) = true
      ∧ (requestLink (.probe .vessel 7 12 7)).all (fun j => j == .vessel) = true := by decide
theorem witness_RequestFrameArrives :
    pouring.mainSupply = true ∧ (pouring.link .vessel).brk = .marking ∧ (Instr.probe .vessel 7 12 7).wellFormed = true
      ∧ requestCode (.probe .vessel 7 12 7) = some 43 ∧ requestTag (.probe .vessel 7 12 7) = some 7
      ∧ (requestLink (.probe .vessel 7 12 7)).all (fun j => j == .vessel) = true ∧ entitled .vessel 43 = true
      ∧ (pouring.link .vessel).requests.length < 4 := by decide
/-- A part whose terminal link holds a full request queue, and whose vessel link holds one request and six notices. -/
def busy : State :=
  { pouring with
    links :=
      ⟨linkUp [.hold 1, .hold 2, .hold 3, .hold 4] [], linkUp [.status .vessel 9 0] (List.replicate 6 (.notice .metrologyAttempt)),
        linkUp [.metrologyLock 1] []⟩ }
theorem witness_RequestFrameArrives_full :
    busy.mainSupply = true ∧ (busy.link .terminal).brk = .marking ∧ entitled .terminal 13 = true
      ∧ 4 ≤ (busy.link .terminal).requests.length ∧ (busy.link .terminal).output.length < 7 := by decide
/-- What the checks make of a frame: another kind, an unknown code, an ill-formed body, a role not entitled, FULL, and a request
that joins. -/
theorem witness_RequestFrameArrives_verdict :
    busy.verdict .survey 0x02#8 7#8 3#8 [] [.metrologyLock 1] none
      ∧ busy.verdict .survey 0x01#8 7#8 51#8 [] [.metrologyLock 1] (some .unknown)
      ∧ busy.verdict .survey 0x01#8 7#8 3#8 [0#8] [.metrologyLock 1] (some .malformed)
      ∧ busy.verdict .survey 0x01#8 7#8 3#8 [] [.metrologyLock 1] (some .denied)
      ∧ busy.verdict .terminal 0x01#8 7#8 3#8 [] [.hold 1, .hold 2, .hold 3, .hold 4] (some .full)
      ∧ busy.verdict .survey 0x01#8 7#8 39#8 [] [.metrologyLock 1, .metrologyLock 7] none := by
  refine ⟨.inl ⟨by decide, rfl, rfl⟩, .inr (.inl ⟨rfl, by decide, rfl, rfl⟩),
    .inr (.inr (.inl ⟨rfl, by decide, by decide, rfl, rfl, rfl⟩)),
    .inr (.inr (.inr ⟨rfl, by decide, by decide, .flush 7, rfl, .inl ⟨rfl, rfl, rfl⟩⟩)),
    .inr (.inr (.inr ⟨rfl, by decide, by decide, .flush 7, rfl, .inr (.inr ⟨rfl, by decide, rfl, rfl⟩)⟩)),
    .inr (.inr (.inr ⟨rfl, by decide, by decide, .metrologyLock 7, rfl, .inr (.inl ⟨rfl, by decide, rfl, rfl⟩)⟩))⟩
/-- A part whose terminal link is DOWN with its RESTART owed while a step is suspended with LINK. -/
def silenced : State :=
  (paused { pourStep with state := .suspended, suspension := { ReasonSet.none with link := true } }).withLink .terminal
    { linkUp [] [] with up := false, silence := none, heardSinceReset := false }
set_option maxRecDepth 8000 in
theorem witness_RequestFrameArrives_up :
    silenced.mainSupply = true ∧ (silenced.link .terminal).brk = .marking ∧ (silenced.link .terminal).up = false
      ∧ silenced.planSound ∧ silenced.plan.steps.any (fun st => st.isRunning && st.suspension.link) = true
      ∧ silenced.restartFrames .terminal = [.notice (.restart .clearBank)]
      ∧ [0#8, 0#8] ≠ halfBytes (crc16 (frameCore 0x01#8 7#8 3 [])) := by decide
theorem witness_LinkEventsActed : pouring.mainSupply = true ∧ (pouring.link .survey).brk = .marking := by decide
theorem witness_LinkEventsActed_sent :
    busy.mainSupply = true ∧ (busy.link .vessel).output = .notice .metrologyAttempt :: List.replicate 5 (.notice .metrologyAttempt) := by
  decide
theorem witness_LinkEventsActed_silence :
    pouring.mainSupply = true ∧ (pouring.link .terminal).up = true ∧ pouring.noticesShaped ∧ pourStep ∈ pouring.plan.steps
      ∧ pourStep.isRunning = true ∧ pouring.planSound := by decide
theorem witness_LinkEventsActed_break :
    busy.mainSupply = true ∧ (busy.link .vessel).brk = .marking
      ∧ ((busy.withLink .vessel { busy.link .vessel with brk := .broken }).link .vessel).brk = .broken := by decide
theorem witness_RequestsQueue_joins :
    busy.mainSupply = true ∧ (busy.link .survey).requests = [.metrologyLock 1] ∧ Instr.metrologyLock 1 ≠ .status .survey 9 0
      ∧ (busy.link .survey).requests.length < 4 := by decide
theorem witness_RequestsQueue_alone :
    let s := pouring.withLink .survey (linkUp [] (List.replicate 6 (.notice .metrologyAttempt)))
    s.mainSupply = true ∧ requestOn (.queueRead .survey 4) = some .survey ∧ requestTag (.queueRead .survey 4) = some 4
      ∧ (requestCode (.queueRead .survey 4)).isSome = true ∧ (s.link .survey).requests = [] ∧ s.hasRoom .survey = false := by decide
theorem witness_RequestsQueue_full :
    (busy.link .terminal).requests = .hold 1 :: [.hold 2, .hold 3, .hold 4] ∧ Instr.hold 1 ≠ .status .terminal 9 0
      ∧ 4 ≤ (busy.link .terminal).requests.length ∧ (busy.link .terminal).output.length < 8 := by decide
theorem witness_RequestsQueue_waits :
    (busy.link .vessel).requests = .status .vessel 9 0 :: [] ∧ busy.hasRoom .vessel = false := by decide
theorem witness_RequestsQueue_taken :
    busy.mainSupply = true ∧ requestOn (.hold 1) = some .terminal ∧ requestOn (.status .vessel 9 0) = some .vessel
      ∧ requestOn (.probe .survey 9 1 0) = none ∧ (busy.link .terminal).requests = .hold 1 :: [.hold 2, .hold 3, .hold 4]
      ∧ busy.hasRoom .terminal = true ∧ (busy.link .survey).requests = .metrologyLock 1 :: [] ∧ busy.hasRoom .survey = true := by
  decide
theorem witness_RequestsQueue_idle :
    let s := busy.withLink .terminal (linkUp [] [])
    let u := s.withLink .vessel (linkUp [.halt 1] [])
    busy.pending = [] ∧ (s.link .terminal).requests = [] ∧ s.hasRoom .vessel = false ∧ (s.link .survey).requests = .metrologyLock 1 :: []
      ∧ (u.link .vessel).requests = .halt 1 :: [] ∧ u.hasRoom .vessel = true := by decide
theorem witness_ReadsAnswer :
    pouring.takes .terminal ∧ pouring.takes .vessel ∧ pouring.takes .survey ∧ loaderOf 2 = some .l2
      ∧ statusPartOf 6 = some .field ∧ (pouring.lot? 8).isSome = true ∧ (pouring.lot? 1).isSome = true
      ∧ bookPartOf 2 = some .closing ∧ pouring.book.lots.length = 8 := by decide

theorem witness_NoticesKept :
    pouring.noticesShaped ∧ (pouring.notice .vessel).entry? 15 = some ⟨.restart .clearBank, 1⟩ ∧ Event.code (.restart .warmLine) = 15
      ∧ (pouring.notice .vessel).entry? (Event.code (.dustWarn .z1)) = none := by decide
theorem witness_NoticesKept_requests :
    pouring.takes .survey ∧ (∀ c ∈ [0, 15], c ≤ 15) ∧ [0, 15].Nodup ∧ (∃ c ∈ [16], 15 < c) ∧ ¬ [3, 3].Nodup := by decide

theorem witness_FlushDiscardsValid : pouring.takes .terminal ∧ pouring.cache.entries[1]? = some (.valid ⟨5, 0⟩ ⟨190000, 7500⟩) := by
  decide
/-- The premise of MapChangesInvalidate for a MOORING at the ends of its ranges; loader 1's pin is among the entries concerned. -/
theorem witness_MapChangesInvalidate_mooring :
    pouring.takes .terminal ∧ pouring.noticesShaped ∧ pouring.hatch.holds.length = 12
      ∧ (∃ (x f n : Nat) (o : Orientation), Instr.mooring 9 250000 5000 1 = .mooring 9 x f n ∧ x ≤ 250000 ∧ f ≤ 5000
        ∧ orientationOf n = some o
        ∧ { pouring.hatch with mooring := some ⟨250000, 5000, .bowDownstream⟩ } = { pouring.hatch with mooring := some ⟨x, f, o⟩ })
      ∧ (∃ e ∈ pouring.cache.entries, true = true ∧ e.pinner? = some .l1)
      ∧ ∀ e ∈ pouring.cache.entries, e.pinner? ≠ some (otherLoader .l1) :=
  ⟨by decide, by decide, by decide, ⟨250000, 5000, 1, .bowDownstream, rfl, by decide, by decide, by decide, rfl⟩,
    ⟨.pinned ⟨3, 0⟩ ⟨130000, 7500⟩ .l1, by decide, rfl, rfl⟩, by decide⟩
/-- The same for a HATCH_DEFINE, which concerns no pinned entry when it names hold 5. -/
theorem witness_MapChangesInvalidate_define :
    pouring.takes .vessel ∧ pouring.hatch.holds.length = 12
      ∧ (∀ p ∈ List.replicate 8 (⟨10, 90⟩ : PourPoint), 10 ≤ p.along ∧ p.along ≤ 90 ∧ 10 ≤ p.athwart ∧ p.athwart ≤ 90)
      ∧ 298000 + 2000 ≤ 300000 ∧ 38000 + 2000 ≤ 40000
      ∧ ∀ e ∈ pouring.cache.entries, (e.key?.any fun q => q.hold == 5) = true → e.pinner? = none := by decide
/-- A HATCH_DEFINE one step beyond a range, the others at their ends: the fore edge 1,999 mm from the after edge. -/
theorem witness_MapChangesInvalidate_range :
    pouring.takes .terminal ∧ 250000 < 250001 ∧ pouring.takes .vessel ∧ 300000 < 298001 + 2000
      ∧ (∃ q ∈ [(⟨9, 90⟩ : PourPoint)], q.along < 10 ∨ 90 < q.along ∨ q.athwart < 10 ∨ 90 < q.athwart) := by decide
theorem witness_HatchDeleted :
    pouring.takes .vessel ∧ pouring.hatch.holds.length = 12 ∧ pouring.descriptor? 12 = none
      ∧ pouring.descriptor? 3 = some ⟨20000, 40000, 4000, 10000, [⟨50, 50⟩]⟩
      ∧ pouring.descriptor? 5 = some ⟨80000, 100000, 4000, 10000, [⟨50, 50⟩]⟩ := by decide
theorem witness_HatchDeleted_pinned :
    ∃ e ∈ pouring.cache.entries, ∃ (k : Key) (l : Loader), e.key? = some k ∧ e.pinner? = some l ∧ k.hold = 3 :=
  ⟨.pinned ⟨3, 0⟩ ⟨130000, 7500⟩ .l1, by decide, ⟨3, 0⟩, .l1, rfl, rfl, rfl⟩
theorem witness_HatchDeleted_free :
    ∀ e ∈ pouring.cache.entries, ∀ (k : Key) (l : Loader), e.key? = some k → e.pinner? = some l → k.hold ≠ 5 := by
  have h : ∀ e ∈ pouring.cache.entries, e.pinner?.isSome = true → e.key? = some ⟨3, 0⟩ := by decide
  intro e he k l hk hl
  have h3 := h e he (by simp [hl])
  rw [hk] at h3
  cases h3
  decide
theorem witness_LevelRenews :
    pouring.takes .vessel ∧ pouring.hatch.levels.length = 12 ∧ pouring.marked ∧ (pouring.loader .l1).state = .lowered
      ∧ (pouring.pinKey? .l1).any (fun k => k.hold == 3) = true ∧ (-5000 : Int) ≤ -5000 ∧ (20000 : Int) ≤ 20000 := by decide
theorem witness_ProbeAnswers_pinned :
    pouring.takes .terminal ∧ pouring.cache.pointer ≤ 7
      ∧ pouring.cache.holding? ⟨3, 0⟩ = some (0, .pinned ⟨3, 0⟩ ⟨130000, 7500⟩ .l1) := by decide
theorem witness_ProbeAnswers_hit :
    pouring.takes .vessel ∧ pouring.cache.holding? ⟨5, 0⟩ = some (1, .valid ⟨5, 0⟩ ⟨190000, 7500⟩)
      ∧ pouring.zoneAt? ⟨190000, 7500⟩ = none := by decide
theorem witness_ProbeAnswers_miss :
    (waiting.withCache ⟨List.replicate 8 .invalid, 7⟩).takes .vessel
      ∧ (waiting.withCache ⟨List.replicate 8 .invalid, 7⟩).cache.holding? ⟨3, 0⟩ = none
      ∧ (waiting.withCache ⟨List.replicate 8 .invalid, 7⟩).translate ⟨3, 0⟩ = .found ⟨130000, 7500⟩
      ∧ (waiting.withCache ⟨List.replicate 8 .invalid, 7⟩).zoneAt? ⟨130000, 7500⟩ = none
      ∧ (waiting.withCache ⟨List.replicate 8 .invalid, 7⟩).cache.entries.findIdx? CacheEntry.isInvalid = some 0 := by decide
theorem witness_ProbeAnswers_failed :
    pouring.takes .terminal ∧ pouring.cache.holding? ⟨1, 0⟩ = none ∧ pouring.translate ⟨1, 0⟩ = .failed .noHold
      ∧ pouring.cache.holding? ⟨3, 7⟩ = none ∧ pouring.translate ⟨3, 7⟩ = .failed .noPoint := by decide
theorem witness_ProbeAnswers_reach :
    ((exampleShip .bowDownstream).withLink .vessel (linkUp [] [])).takes .vessel
      ∧ (exampleShip .bowDownstream).cache.holding? ⟨3, 2⟩ = none
      ∧ (exampleShip .bowDownstream).translate ⟨3, 2⟩ = .outOfReach (-15000) 7200 := by decide
/-- The waiting part with eight entries of other keys, the first pinned, the pointer at the last, and a keep-out zone there. -/
def fullCache : State :=
  (waiting.withCache
    ⟨.pinned ⟨4, 0⟩ ⟨1, 3000⟩ .l2 :: ([5, 6, 7, 8, 9, 10, 11].map fun h => .valid ⟨h, 0⟩ ⟨130000, 7500⟩), 7⟩).withHatch
    { waiting.hatch with zones := ⟨true, 130000, 130000, 7500, 7500⟩ :: List.replicate 3 ⟨false, 0, 0, 0, 0⟩ }
theorem witness_ProbeAnswers_scan :
    fullCache.takes .vessel ∧ fullCache.cache.entries.length = 8 ∧ fullCache.cache.holding? ⟨3, 0⟩ = none
      ∧ fullCache.translate ⟨3, 0⟩ = .found ⟨130000, 7500⟩ ∧ (∀ e ∈ fullCache.cache.entries, e ≠ .invalid)
      ∧ nextPointer fullCache.cache.pointer = 0 ∧ (fullCache.cache.entries[1]?.any fun e => e.isValid) = true
      ∧ (∀ c : Nat, c < 1 → (fullCache.cache.entries[(0 + c) % 8]?.any fun e => e.isValid) = false)
      ∧ fullCache.zoneAt? ⟨130000, 7500⟩ = some 0
      ∧ fullCache.cache.holding? ⟨5, 0⟩ = some (1, .valid ⟨5, 0⟩ ⟨130000, 7500⟩) := by decide
theorem witness_ProbeAnswers_survey : pouring.mainSupply = true ∧ (pouring.link .survey).output.length < 8 := by decide
theorem witness_TranslationComputes :
    State.reset.hatch.mooring = none ∧ pouring.hatch.mooring = some ⟨100000, 500, .bowUpstream⟩ ∧ pouring.descriptor? 1 = none
      ∧ pouring.descriptor? 3 = some ⟨20000, 40000, 4000, 10000, [⟨50, 50⟩]⟩
      ∧ (100000 : Int) + (20000 + (40000 - 20000) * 50 / 100) = 130000 ∧ (500 : Int) + 4000 + (10000 - 4000) * 50 / 100 = 7500 := by
  decide

/-! #### Loader Travel -/

theorem witness_MoveSends :
    pouring.takes .terminal ∧ loaderOf 2 = some .l2 ∧ (pouring.loader .l2).state = .idle ∧ pouring.estop = false
      ∧ pouring.restriction (loaderZone .l2) ≠ .stop ∧ (pouring.lookup (some .l2) ⟨5, 0⟩).stop = none
      ∧ (pouring.lookup (some .l2) ⟨5, 0⟩).record = ⟨.done, some (190000, 7500), some true, none, some 1, none⟩
      ∧ (pouring.loader .l2).lastReport = some ⟨200000, 7500, .ready⟩ := by decide
theorem witness_MoveSends_gap : pouring.claimFits .l2 ⟨187000, 203000⟩ := by
  intro o h
  have : o = ⟨127000, 133000⟩ := (Option.some.inj h).symm
  subst this
  decide
theorem witness_MoveSends_refused :
    loaderOf 3 = none ∧ (pouring.loader .l1).state ≠ .idle ∧ (pouring.loader .l1).state ≠ .aligned
      ∧ { pouring with lines := linesAt [14] }.estop = true
      ∧ { pouring with dust := ⟨clearZone, ⟨.purge, some 1, 120, []⟩, clearZone⟩ }.restriction (loaderZone .l2) = .stop
      ∧ (pouring.lookup (some .l2) ⟨1, 0⟩).stop = none ∧ (pouring.lookup (some .l2) ⟨1, 0⟩).record.outcome = .noHold
      ∧ AnswerCode.noHold ≠ .done := by decide
/-- What a loader's lookup meets: its own pinned key, its own stale one with a position to find, the other loader's. -/
theorem witness_MoveSends_lookup :
    let s := pouring.withCache
      ⟨[.pinned ⟨3, 0⟩ ⟨130000, 7500⟩ .l1, .stale ⟨5, 0⟩ ⟨1, 3000⟩ .l2] ++ List.replicate 6 .invalid, 7⟩
    s.cache.holding? ⟨3, 0⟩ = some (0, .pinned ⟨3, 0⟩ ⟨130000, 7500⟩ .l1)
      ∧ s.cache.holding? ⟨5, 0⟩ = some (1, .stale ⟨5, 0⟩ ⟨1, 3000⟩ .l2) ∧ s.translate ⟨5, 0⟩ = .found ⟨190000, 7500⟩
      ∧ (CacheEntry.pinned ⟨3, 0⟩ ⟨130000, 7500⟩ .l1).pinner? = some (otherLoader .l2)
      ∧ s.cache.holding? ⟨6, 0⟩ = none ∧ (s.withHatch State.reset.hatch).translate ⟨5, 0⟩ = .failed .noMooring := by decide
/-- The pouring part with loader 1's claim reaching to 190 m. -/
def crowded : State := pouring.withLoader .l1 { loweredL1 with claim := some ⟨127000, 190000⟩ }
theorem witness_MoveSends_held :
    crowded.takes .terminal ∧ (crowded.lookup (some .l2) ⟨5, 0⟩).stop = none
      ∧ (crowded.lookup (some .l2) ⟨5, 0⟩).record = ⟨.done, some (190000, 7500), some true, none, some 1, none⟩
      ∧ (crowded.loader .l2).lastReport = some ⟨200000, 7500, .ready⟩ := by decide
theorem witness_MoveSends_noGap : ¬ crowded.claimFits .l2 ⟨187000, 203000⟩ := fun h => absurd (h ⟨127000, 190000⟩ rfl) (by decide)
theorem witness_MoveSends_still : waiting.takes .terminal ∧ waiting.still := by decide
/-- The part with loader 1 in another travel state. -/
def withL1 (st : TravelState) : State :=
  pouring.withLoader .l1 { loweredL1 with state := st, travelTimer := some 1, spoutTimer := some 1 }
theorem witness_SpoutMoves :
    (withL1 .aligned).takes .terminal ∧ (withL1 .aligned).estop = false ∧ ((withL1 .aligned).loader .l1).state = .aligned
      ∧ (withL1 .aligned).pinKey? .l1 = some ⟨3, 0⟩ ∧ (withL1 .aligned).level? 3 = some ⟨9000, 5, 0⟩
      ∧ (pouring.loader .l1).state = .lowered ∧ pouring.restriction (loaderZone .l1) ≠ .stop := by decide
theorem witness_SpoutMoves_dust :
    { pouring with dust := ⟨⟨.alarm, none, 120, [0]⟩, clearZone, clearZone⟩ }.restriction (loaderZone .l1) = .stop := by decide
/-- The pour's step SUSPENDED with LOADER, its loader at its pin and LOWERING, LOWERED by a LOWER at once, or LOWERED. -/
def unloadedStep : StepRecord := { pourStep with state := .suspended, suspension := { ReasonSet.none with loader := true } }
def unloadedIn (st : TravelState) (high : List Nat) : State :=
  { (paused unloadedStep).withLoader .l1 { loweredL1 with state := st, spoutTimer := some 1 } with lines := linesAt high }
theorem witness_SpoutMoves_loader :
    pouring.takes .terminal ∧ pourStep ∈ pouring.plan.steps ∧ pouring.planSound ∧ pourStep.isRunning = true ∧ pourStep.loader = .l1
      ∧ (pouring.loader .l1).state = .lowered ∧ (unloadedIn .aligned [1, 10, 13]).takes .terminal
      ∧ (unloadedIn .aligned [1, 10, 13]).planSound ∧ (unloadedIn .aligned [1, 10, 13]).spoutDown .l1 = true
      ∧ (unloadedIn .aligned [1, 10, 13]).pinKey? .l1 = some ⟨3, 0⟩
      ∧ (unloadedIn .aligned [1, 10, 13]).diverter.state = atLoader .l1 ∧ (unloadedIn .lowering []).marked := by decide
theorem witness_SpoutMoves_refused :
    (pouring.loader .l1).state ≠ .aligned ∧ (pouring.loader .l2).state ≠ .lowered ∧ (pouring.loader .l2).state ≠ .lowering
      ∧ (withL1 .aligned).pinKey? .l1 = some ⟨3, 0⟩
      ∧ ((withL1 .aligned).withHatch { pouring.hatch with levels := List.replicate 12 none }).level? 3 = none := by decide
theorem witness_LoaderIdles :
    (withL1 .travel).takes .terminal ∧ loaderOf 1 = some .l1 ∧ ((withL1 .travel).loader .l1).lastReport = some ⟨130000, 7500, .ready⟩
      ∧ ((withL1 .travel).loader .l1).state = .travel ∧ ((withL1 .fault).loader .l1).state = .fault
      ∧ ({ withL1 .fault with lines := linesAt [0] }).spoutUp .l1 = true ∧ ((withL1 .fault).loader .l1).reportAge < 1000
      ∧ DriveStatus.ready ≠ .fault ∧ (withL1 .fault).estop = false := by decide
theorem witness_LoaderIdles_gap : (withL1 .fault).claimFits .l1 (claimAt 130000) := by
  intro o h
  have : o = ⟨197000, 203000⟩ := (Option.some.inj h).symm
  subst this
  decide
theorem witness_LoaderIdles_refused :
    (pouring.loader .l2).state ≠ .travel ∧ (pouring.loader .l1).state ≠ .fault ∧ (withL1 .fault).spoutUp .l1 = false
      ∧ { withL1 .fault with lines := linesAt [0, 14] }.estop = true := by decide
/-- A travelling and a faulted loader that hold the pin of the suspended step. -/
theorem witness_LoaderIdles_pin :
    (unloadedIn .travel []).planSound ∧ unloadedStep ∈ (unloadedIn .travel []).plan.steps ∧ unloadedStep.isRunning = true
      ∧ (unloadedIn .travel []).pinKey? .l1 = some ⟨unloadedStep.hold, unloadedStep.point⟩
      ∧ (unloadedIn .aligned []).takes .terminal ∧ (unloadedIn .aligned []).pinsSound ∧ (⟨5, 0⟩ : Key) ≠ ⟨3, 0⟩
      ∧ ((unloadedIn .aligned []).lookup (some .l1) ⟨5, 0⟩).record =
        ⟨.done, some (190000, 7500), some true, none, some 1, none⟩ := by decide
theorem witness_LoaderIdles_noGap :
    ¬ ((withL1 .fault).withLoader .l2 { idleL2 with claim := some ⟨134999, 140999⟩ }).claimFits .l1 (claimAt 130000) :=
  fun h => absurd (h ⟨134999, 140999⟩ rfl) (by decide)
/-- The part with loader 2 not yet reported. -/
def unreported : State := pouring.withLoader .l2 ⟨.unreported, none, none, none, none, none, 0, 0, none, none⟩
theorem witness_ReportsActed :
    pouring.mainSupply = true ∧ 250000 < 250001 ∧ (unreported.loader .l2).state = .unreported
      ∧ ((withL1 .travel).loader .l1).state = .travel ∧ ((withL1 .travel).loader .l1).target = some ⟨130000, 7500⟩
      ∧ ((withL1 .travel).loader .l1).alignCount = 0 ∧ (130150 : Int) - 130000 ≤ 150 ∧ (500 : Int) < 130501 - 130000
      ∧ (pouring.loader .l1).state ≠ .fault := by decide
theorem witness_ReportsActed_second :
    (((withL1 .travel).withLoader .l1 { loweredL1 with state := .travel, alignCount := 1 }).loader .l1).alignCount = 1 := by decide
theorem witness_ReportsActed_gap : unreported.claimFits .l2 (claimAt 250000) := by
  intro o h
  have : o = ⟨127000, 133000⟩ := (Option.some.inj h).symm
  subst this
  decide
theorem witness_ReportsActed_noGap : ¬ unreported.claimFits .l2 (claimAt 137999) := fun h => absurd (h ⟨127000, 133000⟩ rfl) (by decide)
theorem witness_ReportsActed_far : (150 : Int) < ((130151 : Nat) : Int) - ((⟨130000, 7500⟩ : Position).x : Int) := by decide
/-- Reports that leave the state, at the ends of the range, and one that faults the loader of the running step. -/
theorem witness_ReportsActed_within :
    (pouring.loader .l1).state = .lowered ∧ (pouring.loader .l1).target = some ⟨130000, 7500⟩
      ∧ (130500 : Int) - 130000 ≤ 500 ∧ (7500 : Int) - 7000 ≤ 500 ∧ (pouring.loader .l2).state = .idle ∧ pouring.noticesShaped
      ∧ pourStep ∈ pouring.plan.steps ∧ pouring.planSound ∧ pourStep.isRunning = true ∧ pourStep.loader = .l1
      ∧ (∀ u ∈ pouring.plan.steps, u.isRunning = true → u.loader ≠ .l2) ∧ pouring.marked := by decide
theorem witness_LoaderTimersFault :
    (withL1 .travel).mainSupply = true ∧ (withL1 .travel).noticesShaped ∧ ((withL1 .travel).loader .l1).travelTimer.isSome = true
      ∧ ((withL1 .raising).loader .l1).state = .raising ∧ ((withL1 .raising).loader .l1).spoutTimer.isSome = true
      ∧ (pouring.loader .l1).state ≠ .unreported ∧ (pouring.loader .l1).state ≠ .fault := by decide

theorem witness_LoaderTimersFault_lost :
    pouring.mainSupply = true ∧ pouring.noticesShaped ∧ pourStep ∈ pouring.plan.steps ∧ pouring.planSound ∧ pourStep.loader = .l1
      ∧ (pouring.loader .l1).state = .lowered ∧ pouring.marked
      ∧ (∀ st ∈ pouring.plan.steps, st.isRunning = true → st.loader ≠ .l2 ∨ (pouring.loader .l2).state ≠ .lowered) := by decide

/-! #### The Pour Plan -/

/-- The waiting part with its plan in another state. -/
def planIn (st : PlanState) : State := waiting.withPlan { waiting.plan with state := st }
theorem witness_StepInserted :
    (planIn .submitted).takes .vessel ∧ (planIn .submitted).plan.state = .submitted
      ∧ 256 ≤ (waiting.withPlan { waiting.plan with idCounter := 256 }).plan.idCounter ∧ waiting.plan.state ≠ .submitted
      ∧ waiting.plan.steps = [{ pourStep with state := .pending }] ++ [nextStep] ∧ waiting.plan.idCounter < 256
      ∧ (∀ q ∈ [nextStep], q.state = .pending) ∧ some 2 = some nextStep.id
      ∧ (∀ q ∈ [{ pourStep with state := StepState.pending }], q.id ≠ nextStep.id) := by decide
/-- A place behind which the accepted plan holds a step that is not PENDING, and a place that is not in the list. -/
theorem witness_StepInserted_place :
    pouring.takes .vessel ∧ pouring.plan.state = .accepted ∧ pouring.plan.steps = [] ++ [pourStep, nextStep]
      ∧ (([pourStep, nextStep] : List StepRecord).head?.map (·.id)) = some 1 ∧ (∃ q ∈ [pourStep, nextStep], q.state ≠ .pending)
      ∧ (∀ st ∈ pouring.plan.steps, st.id ≠ 9) ∧ pouring.plan.steps.length < 64 ∧ pouring.plan.idCounter < 256 := by decide
theorem witness_StepDeleted :
    waiting.takes .vessel ∧ (∀ st ∈ waiting.plan.steps, st.id ≠ 9)
      ∧ waiting.plan.steps = [{ pourStep with state := .pending }] ++ nextStep :: [] ∧ nextStep.id = 2 ∧ nextStep.state = .pending
      ∧ waiting.plan.state = .accepted ∧ (planIn .submitted).plan.state = .submitted
      ∧ pouring.plan.steps = [] ++ pourStep :: [nextStep] ∧ pourStep.state ≠ .pending := by decide
theorem witness_StepEdited :
    waiting.takes .vessel ∧ (waiting.plan.steps.map (·.id)).Nodup ∧ waiting.plan.state = .accepted
      ∧ waiting.step? 2 = some nextStep ∧ waiting.noticesShaped ∧ waiting.marked ∧ amendFieldOf 5 = some .consent
      ∧ amendValueOk .consent 1 = true ∧ amendFieldOf 4 = some .target ∧ amendValueOk .target 100 = true := by decide
theorem witness_StepEdited_clamp :
    pouring.takes .vessel ∧ pouring.step? 1 = some pourStep ∧ pourStep.isRunning = true ∧ pouring.plan.tag = some 1
      ∧ 0 < pouring.weigh.config.runOut ∧ 1740 ≤ pourStep.delivered + pouring.onBelt 1 + pouring.weigh.config.tail := by decide
/-- The running step's target amended to 1,741 kg leaves an effective remaining of 1 kg, and 1,740 kg reaches the committed mass. -/
theorem witness_StepEdited_running :
    pourStep.delivered + pouring.onBelt 1 = 240 ∧ pouring.weigh.config.tail = 1500 ∧ 240 + pouring.weigh.config.tail < 1741
      ∧ (1 : Int) = (1741 : Int) - pouring.weigh.config.tail - (240 : Nat)
      ∧ (pouring.lot? pourStep.lot).map (·.ordered) = some none := by decide
/-- The same with an order of 1,740 kg on the lot: the lot remaining is 0 and the amendment cuts the step off. -/
theorem witness_StepEdited_order :
    let s := { pouring with
      book :=
        { pouring.book with
          lots :=
            pouring.book.lots.set 0
              ⟨.opened, some [65], some 1740, { Account.zero with weighed := 240, inTransit := 240 }, none⟩ } }
    s.takes .vessel ∧ (s.plan.steps.map (·.id)).Nodup ∧ (s.lot? pourStep.lot).map (·.ordered) = some (some 1740)
      ∧ (0 : Int) = min (4000 : Int) ((1740 : Int) - s.weigh.config.tail - (Account.zero.delivered.sum + 240 : Nat)) := by decide
/-- A step's number that is not in the list, and the values at the edges of the fields. -/
theorem witness_StepEdited_refused :
    (∀ st ∈ waiting.plan.steps, st.id ≠ 9) ∧ (planIn .submitted).takes .vessel ∧ amendFieldOf 6 = none
      ∧ amendValueOk .target 20000001 = false ∧ amendValueOk .hold 13 = false ∧ pourStep.isCurrent = true
      ∧ amendValueOk .hold 12 = true ∧ pouring.step? 1 = some pourStep := by decide
theorem witness_StepEdited_state :
    (paused { pourStep with state := .cutoff }).step? 1 = some { pourStep with state := .cutoff }
      ∧ ({ pourStep with state := StepState.cutoff }).isCurrent = false := by decide
theorem witness_PlanMoves : (planIn .draft).takes .vessel ∧ (planIn .submitted).takes .terminal ∧ (planIn .draft).plan.state = .draft := by
  decide
theorem witness_PlanCleared :
    waiting.takes .vessel ∧ (∀ st ∈ waiting.plan.steps, st.state = .pending ∨ st.state = .done ∨ st.state = .skipped)
      ∧ (∃ st ∈ pouring.plan.steps,
        st.state = .consentWait ∨ st.state = .feeding ∨ st.state = .suspended ∨ st.state = .cutoff) := by decide
/-- The margin of a step of a lot with no ordered quantity. -/
theorem waiting_margin (st : StepRecord) (h1 : st.target = 5000) (h2 : st.lot = 1) : waiting.hasMargin st := by
  refine ⟨by rw [h1]; decide, fun r o hr ho => ?_⟩
  rw [h2] at hr
  have : r = ⟨.opened, some [65], none, Account.zero, none⟩ := (Option.some.inj hr).symm
  rw [this] at ho
  cases ho
/-- The waiting part's first step, with consent required or not. -/
def firstStep (consent : Bool) : StepRecord := { pourStep with state := .pending, consentRequired := consent }
/-- The waiting part with its first step so. -/
def ready (consent : Bool) : State := waiting.withPlan { waiting.plan with steps := [firstStep consent, nextStep] }
theorem witness_mayStart (consent : Bool) : (ready consent).mayStart (firstStep consent) := by
  refine ⟨rfl, ⟨[], [nextStep], rfl, fun _ h => nomatch h⟩, rfl, rfl, ?_, ⟨_, rfl, rfl⟩, rfl, rfl, ?_, rfl, ?_, ?_⟩
  · revert consent; decide
  · revert consent; decide
  · revert consent; decide
  · exact waiting_margin (firstStep consent) rfl rfl
theorem witness_StepStartFeeds :
    (ready false).takes .terminal ∧ ((ready false).plan.steps.map (·.id)).Nodup ∧ (firstStep false).consentRequired = false
      ∧ (ready false).weigh.queue.length < 512 := by decide
theorem witness_StepStartFeeds_unpoured : (ready false).unpoured (firstStep false) :=
  ⟨rfl, fun _ h => (nomatch h), fun _ h => (nomatch h)⟩
theorem witness_StepStartAsks :
    (ready true).takes .terminal ∧ ((ready true).plan.steps.map (·.id)).Nodup ∧ (firstStep true).consentRequired = true
      ∧ (ready true).marked ∧ (ready true).noticesShaped := by decide
/-- The part with the metrology record unlocked and no lot open. -/
def unlocked : State := { waiting with weigh := State.reset.weigh, book := State.reset.book }
/-- The refusals of STEP_START, one premise each, at the part that is otherwise ready. -/
theorem witness_StepStartAsks_refused :
    (planIn .draft).plan.state ≠ .accepted ∧ waiting.plan.state = .accepted
      ∧ waiting.plan.steps.find? (fun q => q.state == .pending) = some (firstStep false)
      ∧ ((waiting.plan.steps.find? fun q => q.state == .pending).all fun q => q.id != 2) = true
      ∧ (∃ q ∈ pouring.plan.steps, q.state = .consentWait ∨ q.state = .feeding ∨ q.state = .suspended)
      ∧ (∀ q ∈ waiting.plan.steps, q.state ≠ .consentWait ∧ q.state ≠ .feeding ∧ q.state ≠ .suspended)
      ∧ unlocked.weigh.metrology.locked = false ∧ waiting.weigh.metrology.locked = true
      ∧ (waiting.loader (firstStep false).loader).state = .lowered ∧ waiting.pinKey? .l1 = some ⟨3, 0⟩
      ∧ waiting.diverter.state = atLoader .l1
      ∧ { waiting with dust := ⟨clearZone, clearZone, ⟨.lockout, none, 120, []⟩⟩ }.dustOf .l1 = .stop
      ∧ waiting.dustOf .l1 ≠ .stop := by decide
theorem witness_StepStartAsks_lot : ∀ r : LotRecord, unlocked.lot? 1 = some r → r.state ≠ .opened := fun r h => by
  rw [← Option.some.inj h]; decide
theorem witness_StepStartAsks_range : ¬ waiting.hasMargin { firstStep false with target := 1500 } :=
  fun h => absurd h.1 (by decide)
/-- The part with its first step in CONSENT_WAIT, in window 1 or 2. -/
def asked (window : Nat) : State :=
  waiting.withPlan
    { waiting.plan with
      steps := [{ firstStep true with state := .consentWait }, nextStep]
      asked := [1]
      window := some ⟨1, window, 60000⟩ }
/-- The asked part with its window at its last millisecond. -/
def lapsing (window : Nat) : State := (asked window).withPlan { (asked window).plan with window := some ⟨1, window, 1⟩ }
theorem witness_TimersExpire_window :
    ∀ window ∈ [1, 2], (lapsing window).noticesShaped ∧ (lapsing window).planSound ∧ (lapsing window).demandSound
      ∧ (lapsing window).feedSound ∧ (lapsing window).plan.window = some ⟨1, window, 1⟩
      ∧ (lapsing window).step? 1 = some { firstStep true with state := .consentWait } := by decide
theorem waiting_linesRest : waiting.linesRest := ⟨rfl, by decide⟩
theorem witness_TimersExpire_windowRest (window : Nat) : (lapsing window).idles ∧ (lapsing window).linesRest :=
  ⟨⟨rfl, rfl, noRequest_of_empty _ rfl rfl rfl⟩, waiting_linesRest⟩
theorem witness_ConsentAnswered :
    (asked 1).takes .vessel ∧ (asked 1).planSound ∧ (asked 1).step? 1 = some { firstStep true with state := .consentWait }
      ∧ (asked 1).marked ∧ (asked 1).weigh.queue.length < 512 := by decide
theorem witness_ConsentAnswered_grant :
    (asked 1).unpoured { firstStep true with state := .consentWait } ∧ (asked 1).hasMargin { firstStep true with state := .consentWait } :=
  ⟨⟨rfl, fun _ h => (nomatch h), fun _ h => (nomatch h)⟩, waiting_margin _ rfl rfl⟩
theorem witness_StepEdited_waiting :
    ((asked 1).plan.steps.map (·.id)).Nodup ∧ (asked 1).plan.state = .accepted
      ∧ ((asked 1).step? 1).map (·.state) = some .consentWait ∧ 1500 ≤ (asked 1).weigh.config.tail ∧ (asked 1).weigh.config.tail < 1501 := by
  decide
/-- The asked part with a tail allowance raised since STEP_START: the margin has vanished. -/
def vanished : State := (asked 1).withWeigh { waiting.weigh with config := { waiting.weigh.config with tail := 5000 } }
theorem witness_ConsentAnswered_vanished :
    vanished.takes .vessel ∧ vanished.planSound ∧ vanished.step? 1 = some { firstStep true with state := .consentWait }
      ∧ vanished.weigh.queue.length < 512 ∧ 0 < vanished.weigh.config.runOut
      ∧ (0 : Int) = ((firstStep true).target : Int) - vanished.weigh.config.tail ∧ 1 < 2 := by decide
theorem witness_ConsentAnswered_noMargin :
    vanished.unpoured { firstStep true with state := .consentWait } ∧ ¬ vanished.hasMargin { firstStep true with state := .consentWait } :=
  ⟨⟨rfl, fun _ h => (nomatch h), fun _ h => (nomatch h)⟩, fun h => absurd h.1 (by decide)⟩
theorem witness_ConsentAnswered_late :
    (∀ st : StepRecord, (waiting.withPlan { waiting.plan with asked := [1] }).step? 1 = some st → st.state ≠ .consentWait)
      ∧ 1 ∈ (waiting.withPlan { waiting.plan with asked := [1] }).plan.asked ∧ 2 ∉ waiting.plan.asked
      ∧ (∀ st : StepRecord, waiting.step? 2 = some st → st.lapseMark = false) := by
  refine ⟨fun st h => ?_, by decide, by decide, fun st h => ?_⟩
  · rw [← Option.some.inj h]; decide
  · rw [← Option.some.inj h]; decide
theorem witness_ConsentWindowExpires :
    (asked 2).mainSupply = true ∧ (asked 2).noticesShaped ∧ (asked 1).plan.window = some ⟨1, 1, 60000⟩
      ∧ (asked 2).plan.window = some ⟨1, 2, 60000⟩ ∧ (asked 2).marked := by decide
/-- The pour's step suspended with a set. -/
def heldWith (rs : ReasonSet) : StepRecord := { pourStep with state := .suspended, suspension := rs }
theorem witness_HoldHaltRelease :
    pouring.planSound ∧ pouring.takes .terminal ∧ pouring.takes .vessel ∧ pourStep ∈ pouring.plan.steps ∧ pourStep.state = .feeding
      ∧ waiting.planSound ∧ (∀ st ∈ waiting.plan.steps, st.state ≠ .feeding ∧ st.state ≠ .suspended) := by decide
theorem witness_HoldHaltRelease_vessel :
    (paused (heldWith { ReasonSet.none with vessel := true })).planSound
      ∧ (paused (heldWith { ReasonSet.none with vessel := true })).takes .vessel
      ∧ heldWith { ReasonSet.none with vessel := true } ∈ (paused (heldWith { ReasonSet.none with vessel := true })).plan.steps
      ∧ (heldWith { ReasonSet.none with vessel := true }).suspension.vessel = true ∧ pourStep.suspension.vessel = false := by
  decide
theorem witness_ResumeFeeds :
    (paused (heldWith { ReasonSet.none with terminal := true })).planSound
      ∧ (paused (heldWith { ReasonSet.none with terminal := true })).takes .terminal
      ∧ heldWith { ReasonSet.none with terminal := true } ∈ (paused (heldWith { ReasonSet.none with terminal := true })).plan.steps
      ∧ (paused (heldWith { ReasonSet.none with terminal := true })).marked
      ∧ ({ (heldWith { ReasonSet.none with terminal := true }).suspension with terminal := false } : ReasonSet) = ReasonSet.none
      ∧ ({ (heldWith { ReasonSet.none with belt := true }).suspension with terminal := false } : ReasonSet) ≠ ReasonSet.none := by
  decide
theorem witness_StepEnds :
    pouring.planSound ∧ pouring.step? 1 = some pourStep ∧ pourStep.state = .feeding ∧ 0 < pouring.weigh.config.runOut
      ∧ pouring.takes .terminal ∧ pouring.takes .vessel ∧ (asked 1).planSound ∧ (asked 1).marked
      ∧ (asked 1).step? 1 = some { firstStep true with state := .consentWait } := by decide
theorem witness_StepEnds_other :
    ∀ st : StepRecord, pouring.step? 2 = some st → st.isCurrent = false := fun st h => by rw [← Option.some.inj h]; decide

/-! #### Settings, gate, diverter, weighing -/

theorem witness_SettingsStored :
    pouring.takes .terminal ∧ zoneOf 2 = some .z3 ∧ zoneOf 3 = none ∧ (1 : Nat) ≤ 100 ∧ 400000 ≤ 480 * 2000 ∧ waiting.weigh.queue = []
      ∧ waiting.weigh.openParcel = none ∧ waiting.takes .terminal ∧ waiting.still ∧ pouring.weigh.queue ≠ [] := by decide
theorem witness_SettingsStored_survey :
    unlocked.takes .survey ∧ unlocked.weigh.metrology.locked = false ∧ (∀ r ∈ unlocked.book.lots, r.state = .free ∨ r.state = .closed)
      ∧ (∃ r ∈ waiting.book.lots, r.state = .opened ∨ r.state = .closing) ∧ pouring.takes .survey ∧ pouring.weigh.metrology.locked = true
      ∧ pouring.noticesShaped := by decide
theorem witness_DiverterFollows :
    waiting.takes .terminal ∧ targetOf 2 = some .chute ∧ targetOf 0 = some .l1 ∧ waiting.diverter.state ≠ .moving
      ∧ waiting.gate.demand = .closed ∧ waiting.weigh.queue = [] ∧ pouring.gate.demand ≠ .closed
      ∧ (paused (heldWith ReasonSet.none)).gate.demand = .closed ∧ (paused (heldWith ReasonSet.none)).weigh.queue ≠ [] := by decide
theorem witness_DiverterFollows_leaves :
    pouring.mayFall 10 false ∧ pouring.noticesShaped ∧ pourStep ∈ pouring.plan.steps ∧ pouring.planSound ∧ pourStep.isRunning = true
      ∧ pouring.diverter.state = atLoader pourStep.loader ∧ pouring.diverterSound
      ∧ diverterBy 0 (placeOf false false false) pouring.diverter.command (pouring.diverter.lapse && 0 != 1) = .moving := by decide
theorem witness_DiverterFollows_two :
    pouring.mayRise 11 true ∧ pouring.cond 10 = true ∧ pouring.cond 12 = false
      ∧ (2 : Nat) = true.toNat + true.toNat + false.toNat ∧ pouring.diverter.state ≠ .unknown
      ∧ diverterBy 2 (placeOf true true false) pouring.diverter.command (pouring.diverter.lapse && 2 != 1) = .unknown := by decide
/-- The part with the gate at fault and a step suspended by it. -/
def gateFaulted (shut : Bool) : State :=
  { paused (heldWith { ReasonSet.none with gate := true }) with
    gate := ⟨.closed, .fault, none, true, none, false, false⟩
    lines := linesAt (if shut then [1, 10, 13, 15] else [1, 10, 13]) }
theorem witness_FeedResetClears :
    (gateFaulted true).takes .terminal ∧ (gateFaulted true).gate.fault = true ∧ (gateFaulted true).gateShut = true
      ∧ (gateFaulted true).planSound ∧ (gateFaulted false).gateShut = false := by decide
theorem witness_GateTimersExpire :
    (paused (heldWith ReasonSet.none)).mainSupply = true ∧ (paused (heldWith ReasonSet.none)).noticesShaped
      ∧ (paused (heldWith ReasonSet.none)).gate.state = .closing ∧ (paused (heldWith ReasonSet.none)).gate.timer.isSome = true
      ∧ heldWith ReasonSet.none ∈ (paused (heldWith ReasonSet.none)).plan.steps ∧ (paused (heldWith ReasonSet.none)).planSound
      ∧ State.reset.diverter.state = .moving ∧ State.reset.diverter.timer.isSome = true ∧ State.reset.noticesShaped
      ∧ pouring.gate.state ≠ .closing ∧ pouring.diverter.state ≠ .moving ∧ pouring.level? 3 = some ⟨9000, 5, 0⟩
      ∧ pouring.feeding? = some pourStep ∧ pouring.gate.agedMark ≠ some 1 := by decide
theorem witness_IncrementBooks_unassigned :
    waiting.mainSupply = true ∧ waiting.plan.tag = none ∧ waiting.marked
      ∧ 10 = (waiting.book.unassigned.residue + waiting.weigh.metrology.quantum * waiting.weigh.metrology.span) / 1000000 := by decide
theorem witness_IncrementBooks_tagged :
    pouring.plan.tag = some 1 ∧ pouring.step? 1 = some pourStep ∧ (pouring.lot? pourStep.lot).isSome = true
      ∧ pouring.weigh.openParcel.all (fun p => p.tag == some 1 && p.lot == some 1) = true
      ∧ (3250 : Int) = (pourStep.target : Int) - pouring.weigh.config.tail - (pourStep.delivered + pouring.onBelt 1 + 10 : Nat) := by
  decide
theorem witness_BeltAdvances_arrives :
    let s := pouring.withWeigh { pouring.weigh with position := 60100 }
    s.weigh.queue = ⟨5, some 1, some 1, 200, 100⟩ :: [] ∧ s.noticesShaped ∧ (∀ r ∈ s.book.lots, r.state ≠ .closing)
      ∧ s.weigh.config.transit ≤ (s.weigh.position + BitVec.ofNat 32 s.weigh.config.pitch - 100).toNat
      ∧ (s.lot? 1).isSome = true ∧ 200 ≤ (s.account (some 1)).inTransit ∧ s.pinKey? .l1 = some ⟨3, 0⟩ := by decide
theorem witness_BeltAdvances_open :
    (∀ q ∈ pouring.weigh.queue, (pouring.weigh.position + BitVec.ofNat 32 pouring.weigh.config.pitch - q.launch).toNat < 60000)
      ∧ 1000 ≤ ((1490 : Word) + BitVec.ofNat 32 pouring.weigh.config.pitch - 500).toNat ∧ pouring.weigh.queue.length < 512
      ∧ pouring.plan.runOut = none ∧ pouring.gate.demand = pouring.demandNow := by decide
/-- A step in CUTOFF whose run-out has its mark at 0. -/
def runningOut : State :=
  { waiting with
    plan := ⟨.accepted, [{ pourStep with state := .cutoff }, nextStep], 3, [], some 1, none, some ⟨1, .ended, some 0⟩, 60⟩
    weigh := { waiting.weigh with position := 19990 } }
theorem witness_BeltAdvances_runOut :
    runningOut.plan.runOut = some ⟨1, .ended, some 0⟩ ∧ runningOut.step? 1 = some { pourStep with state := .cutoff }
      ∧ runningOut.weigh.config.runOut ≤ (runningOut.weigh.position + BitVec.ofNat 32 runningOut.weigh.config.pitch - 0).toNat
      ∧ runningOut.weigh.queue = [] ∧ runningOut.weigh.openParcel = none := by decide
/-- The waiting part with its lot in CLOSING and two parcels of it due at the next belt advance. -/
def dueTwo : State :=
  { waiting with
    weigh := { waiting.weigh with position := 60100, queue := [⟨5, some 1, some 1, 200, 100⟩, ⟨6, none, some 1, 40, 105⟩] }
    book :=
      { State.reset.book with
        lots :=
          State.reset.book.lots.set 0
            ⟨.closing, some [65], none, { Account.zero with weighed := 240, inTransit := 240, residue := 7 }, none⟩ } }
theorem witness_DischargesInOrder :
    dueTwo.mainSupply = true ∧ dueTwo.weigh.queue = [⟨5, some 1, some 1, 200, 100⟩, ⟨6, none, some 1, 40, 105⟩] ++ []
      ∧ (∀ p ∈ dueTwo.weigh.queue,
        dueTwo.weigh.config.transit ≤ (dueTwo.weigh.position + BitVec.ofNat 32 dueTwo.weigh.config.pitch - p.launch).toNat)
      ∧ dueTwo.weigh.queue.length ≤ 512 ∧ (dueTwo.plan.steps.map (·.id)).Nodup ∧ (dueTwo.lot? 1).isSome = true
      ∧ dueTwo.diverter.state = atLoader .l1 ∧ (dueTwo.loader .l1).state = .lowered ∧ dueTwo.pinKey? .l1 = some ⟨3, 0⟩
      ∧ (dueTwo.account (some 1)).delivered[2]? = some 0 ∧ (dueTwo.account (some 1)).offPlan[2]? = some 0
      ∧ massOf (dueTwo.weigh.queue.filter fun p => !dueTwo.forStep .l1 3 p) (some 1) = 40 := by decide
theorem witness_DischargesInOrder_masses (o : Option Nat) :
    massOf dueTwo.weigh.queue o ≤ (dueTwo.account o).inTransit ∧ (dueTwo.account o).inTransit ≤ 4000000000 := by
  by_cases h : o = some 1
  · subst h; decide
  · have hz : massOf dueTwo.weigh.queue o = 0 := by
      simp [massOf, dueTwo, Ne.symm h]
    refine ⟨hz ▸ Nat.zero_le _, ?_⟩
    match o with
    | none => decide
    | some 0 => decide
    | some 1 => exact absurd rfl h
    | some 2 => decide
    | some 3 => decide
    | some 4 => decide
    | some 5 => decide
    | some 6 => decide
    | some 7 => decide
    | some 8 => decide
    | some (n + 9) => exact Nat.zero_le _
theorem witness_DischargesInOrder_closing :
    (dueTwo.lot? 1).map (·.state) = some .closing ∧ (∀ st ∈ dueTwo.plan.steps, st.lot = 1 → st.isLive = false)
      ∧ massOf dueTwo.weigh.queue (some 1) = (dueTwo.account (some 1)).inTransit ∧ dueTwo.weigh.openParcel = none := by decide
/-- A parcel of the unassigned record, launched at the belt's position of the pouring part. -/
def strayParcel : Parcel := ⟨0, none, none, 1, 1000⟩
/-- The pouring part with n stray parcels in its Transit Queue. -/
def crammed (n : Nat) : State :=
  { pouring with
    weigh := { pouring.weigh with position := 1490, queue := List.replicate n strayParcel }
    book := { pouring.book with unassigned := { Account.zero with weighed := n, inTransit := n } } }
theorem crammed_notDue (n : Nat) (p : Parcel) (h : p ∈ (crammed n).weigh.queue) :
    ((crammed n).weigh.position + BitVec.ofNat 32 (crammed n).weigh.config.pitch - p.launch).toNat
      < (crammed n).weigh.config.transit := by
  have : p = strayParcel := (List.mem_replicate.1 h).2
  subst this
  exact (by decide : ((1490 : Word) + BitVec.ofNat 32 pouring.weigh.config.pitch - strayParcel.launch).toNat
    < pouring.weigh.config.transit)
theorem crammed_length (n : Nat) : (crammed n).weigh.queue.length = n := List.length_replicate
/-- The premises of ParcelsClose that do not depend on the number of parcels. -/
theorem witness_ParcelsClose (n : Nat) :
    (crammed n).mainSupply = true ∧ (crammed n).weigh.openParcel = some ⟨6, some 1, some 1, 40, 500⟩
      ∧ (crammed n).weigh.config.length ≤
        ((crammed n).weigh.position + BitVec.ofNat 32 (crammed n).weigh.config.pitch - 500).toNat
      ∧ (crammed n).planSound ∧ (crammed n).noticesShaped ∧ ((crammed n).lot? 1).isSome = true
      ∧ 40 ≤ ((crammed n).account (some 1)).inTransit ∧ ((crammed n).account (some 1)).inTransit ≤ 4000000000
      ∧ ((crammed n).account (some 1)).unresolved + 40 ≤ 4000000000 ∧ pourStep ∈ (crammed n).plan.steps := by
  exact ⟨rfl, rfl,
    (by decide : pouring.weigh.config.length ≤ ((1490 : Word) + BitVec.ofNat 32 pouring.weigh.config.pitch - 500).toNat),
    (by decide : pouring.planSound), (by decide : pouring.noticesShaped), rfl,
    (by decide : 40 ≤ (pouring.account (some 1)).inTransit),
    (by decide : (pouring.account (some 1)).inTransit ≤ 4000000000),
    (by decide : (pouring.account (some 1)).unresolved + 40 ≤ 4000000000), (by decide : pourStep ∈ pouring.plan.steps)⟩
theorem witness_ParcelsClose_room : (crammed 479).weigh.queue.length < 512 ∧ (crammed 479).weigh.queue.length = 479 := by
  rw [crammed_length]
  decide
/-- With 512 queued the newest carries no tag, unlike the open parcel of step 1. -/
theorem witness_ParcelsClose_full :
    (crammed 512).weigh.queue = List.replicate 511 strayParcel ++ [strayParcel] ∧ 512 ≤ (crammed 512).weigh.queue.length
      ∧ strayParcel.tag ≠ some 1 :=
  ⟨List.replicate_succ', (crammed_length 512).ge, by decide⟩
/-- The discharge that ends the queue condition: one parcel due, 479 behind it. -/
theorem witness_ParcelsClose_ends :
    (List.replicate 479 strayParcel).length = 479 ∧ 0 < pouring.weigh.config.runOut
      ∧ pouring.weigh.config.transit ≤ ((59991 : Word) + BitVec.ofNat 32 pouring.weigh.config.pitch - 0).toNat
      ∧ ((59991 : Word) + BitVec.ofNat 32 pouring.weigh.config.pitch - strayParcel.launch).toNat
        < pouring.weigh.config.transit := by
  exact ⟨List.length_replicate, by decide, by decide, by decide⟩
theorem witness_MetrologyLocks : unlocked.takes .survey ∧ unlocked.mainSupply = true ∧ { unlocked with bankHeld := false }.bankHeld = false := by
  decide

/-! #### The Bill Book, dust, lines, drives, resets -/

theorem witness_LotsChange :
    waiting.takes .survey ∧ waiting.noticesShaped ∧ (waiting.lot? 8).map (·.state) = some .free
      ∧ waiting.lot? 1 = some ⟨.opened, some [65], none, Account.zero, none⟩
      ∧ (∀ c ∈ List.replicate 16 126, 32 ≤ c ∧ c ≤ 126) := by decide
theorem witness_LotsChange_quiet : waiting.lotQuiet 1 ⟨.opened, some [65], none, Account.zero, none⟩ :=
  ⟨by decide, rfl, fun _ h => (nomatch h), fun _ h => (nomatch h)⟩
theorem witness_LotsChange_pending : ¬ pouring.lotQuiet 1 ⟨.opened, some [65], none, { Account.zero with weighed := 240, inTransit := 240 }, none⟩ :=
  fun h => absurd h.2.1 (by decide)
theorem witness_LotsChange_cleared :
    unlocked.takes .survey ∧ unlocked.book.lots.length = 8 ∧ (∀ r ∈ unlocked.book.lots, r.state = .free ∨ r.state = .closed)
      ∧ unlocked.weigh.queue = [] ∧ unlocked.weigh.openParcel = none
      ∧ (∃ r ∈ pouring.book.lots, r.state = .opened ∨ r.state = .closing) ∧ pouring.takes .survey := by decide
/-- The part with nothing on the belt and lots 2 and 5 CLOSED: LOT_STATE stands with 5. -/
def twoClosed : State :=
  { unlocked with
    book :=
      { State.reset.book with
        lots :=
          (State.reset.book.lots.set 1 ⟨.closed, some [65], none, Account.zero, none⟩).set 4
            ⟨.closed, some [65], none, Account.zero, none⟩ } }
theorem witness_LotsChange_told :
    twoClosed.takes .survey ∧ twoClosed.noticesShaped ∧ twoClosed.book.lots.length = 8
      ∧ (∀ r ∈ twoClosed.book.lots, r.state = .free ∨ r.state = .closed) ∧ (twoClosed.lot? 5).map (·.state) = some .closed
      ∧ ∀ m ∈ [6, 7, 8], (twoClosed.lot? m).map (·.state) = some .free := by decide
/-- The part with zone 1 in another state. -/
def zoneIn (r : ZoneRecord) : State := { pouring with dust := ⟨r, clearZone, clearZone⟩ }
theorem witness_DustZones :
    zoneOf 0 = some .z1 ∧ (zoneIn ⟨.lockout, none, 30, []⟩).takes .terminal ∧ (zoneIn ⟨.lockout, none, 30, []⟩).warns .z1 = false
      ∧ (zoneIn ⟨.lockout, none, 30, []⟩).alarms .z1 = false ∧ pouring.noticesShaped
      ∧ ((zoneIn ⟨.purge, some 1, 30, [0]⟩).dust.get .z1).timer.isSome = true
      ∧ (pouring.dust.get .z1).state ≠ .lockout ∧ (pouring.dust.get .z1).state ≠ .purge := by decide
/-- Values just outside their ranges, with the requests taken: DIVERT, LOT_OPEN, LOT_CLOSE, DUST_RESET, LINE_CONFIG, LINE_ACK and
the loaders' requests. -/
theorem witness_ranges :
    pouring.takes .terminal ∧ pouring.takes .survey ∧ targetOf 3 = none ∧ lotOk 9 = false ∧ lotOk 0 = false ∧ zoneOf 3 = none
      ∧ modeOf 5 = none ∧ loaderOf 3 = none ∧ loaderOf 0 = none ∧ pouring.lines.locked = false := by decide
theorem witness_LineRequests :
    pouring.lines.records[15]? = some ⟨.high, true, 3, false, 0, false⟩ ∧ pouring.takes .terminal ∧ pouring.lines.locked = false
      ∧ modeOf 4 = some .both ∧ { pouring.lines with locked := true }.locked = true
      ∧ ({ pouring.lines with records := List.replicate 16 ⟨.both, true, 7, false, 2, true⟩ } : FieldLines).records[0]? =
        some ⟨.both, true, 7, false, 2, true⟩ := by decide
theorem witness_LineRequests_due :
    pouring.timeBase.toNat % 2 ^ 3 = 0 ∧ pouring.lines.sampled[15]? = some false
      ∧ { pouring with timeBase := 4 }.timeBase.toNat % 2 ^ 3 ≠ 0 ∧ State.reset.lines.sampled[15]? = some true := by decide
theorem witness_ConditionsActed :
    pouring.mayRise 14 true ∧ pourStep ∈ pouring.plan.steps ∧ pouring.planSound ∧ pourStep.isRunning = true
      ∧ ({ paused (heldWith { ReasonSet.none with estop := true }) with lines := linesAt [1, 10, 13, 14] }).mayFall 14 false
      ∧ ({ withL1 .lowering with lines := linesAt [10, 13] }).mayRise 1 true ∧ ((withL1 .lowering).loader .l1).state = .lowering
      ∧ (withL1 .raising).mayRise 0 true ∧ ((withL1 .raising).loader .l1).state = .raising ∧ pouring.mayFall 1 false
      ∧ (pouring.loader .l1).state ≠ .raising ∧ pouring.mayRise 0 true := by decide
theorem witness_ConditionsActed_gate :
    { waiting with gate := ⟨.closed, .closing, some 1, false, none, false, false⟩, lines := linesAt [] }.mayRise 15 true
      ∧ (∀ st ∈ waiting.plan.steps, st.isRunning = false) ∧ waiting.mayFall 15 false ∧ waiting.gate.state = .closed
      ∧ waiting.gate.demand = .closed ∧ pouring.mayRise 15 true ∧ pouring.gate.state = .opened ∧ 0 < pouring.weigh.config.runOut ∧ pouring.demandSound
      ∧ pouring.mayFall 13 false ∧ pouring.gate.demand ≠ .closed ∧ waiting.mayFall 13 false ∧ waiting.marked
      ∧ ({ paused (heldWith { ReasonSet.none with belt := true }) with lines := linesAt [1, 10] }).mayRise 13 true := by decide
/-- A spout-down condition and a flap condition that bring the loader and the diverter back to a step suspended with LOADER. -/
theorem witness_ConditionsActed_loader :
    (unloadedIn .lowering [10, 13]).mayRise 1 true ∧ unloadedStep ∈ (unloadedIn .lowering [10, 13]).plan.steps
      ∧ (unloadedIn .lowering [10, 13]).planSound ∧ unloadedStep.isRunning = true
      ∧ ((unloadedIn .lowering [10, 13]).loader .l1).state = .lowering
      ∧ (unloadedIn .lowering [10, 13]).pinKey? .l1 = some ⟨3, 0⟩
      ∧ (unloadedIn .lowering [10, 13]).diverter.state = atLoader .l1 := by decide
theorem witness_DiverterFollows_arrives :
    let s := (unloadedIn .lowered [1, 13]).withDiverter ⟨.moving, some .l1, some 1, false, true, false, false⟩
    s.mayRise 10 true ∧ s.planSound ∧ unloadedStep ∈ s.plan.steps ∧ unloadedStep.isRunning = true ∧ s.noticesShaped
      ∧ s.diverter.state ≠ atLoader unloadedStep.loader ∧ (unloadedIn .lowered []).pours unloadedStep
      ∧ diverterBy 1 (placeOf true false false) (some .l1) false = .atL1 := by decide
set_option maxRecDepth 60000 in
/-- The diverter's arrival at a LOWERED, pinned loader removes LOADER, and the step stays SUSPENDED (R19, R82). -/
theorem test_arrival_removes_loader :
    (match exec (.conditionChange 10 true)
        ((unloadedIn .lowered [1, 13]).withDiverter ⟨.moving, some .l1, some 1, false, true, false, false⟩) with
      | .next t => t.step? 1 == some { unloadedStep with suspension := ReasonSet.none }
      | _ => false) = true := by decide
/-- The pour's step SUSPENDED with DUST: zone 1 purges, and zone 3 is clear or purges too. -/
def dustStep : StepRecord := { pourStep with state := .suspended, suspension := { ReasonSet.none with dust := true } }
def purging (z3 : ZoneRecord) : State := { paused dustStep with dust := ⟨⟨.purge, some 1, 120, [0]⟩, clearZone, z3⟩ }
theorem witness_DustZones_dust :
    (purging clearZone).planSound ∧ dustStep ∈ (purging clearZone).plan.steps ∧ dustStep.isRunning = true
      ∧ ((purging clearZone).dust.get .z1).state = .purge ∧ loaderZone dustStep.loader = .z1
      ∧ (purging clearZone).restriction .z3 ≠ .stop ∧ (purging ⟨.purge, some 1, 120, [0]⟩).restriction .z3 = .stop
      ∧ (purging ⟨.purge, some 1, 120, [0]⟩).restriction (loaderZone dustStep.loader) = .stop
      ∧ (purging clearZone).noticesShaped ∧ (purging clearZone).marked := by decide
/-- A line in LOW mode that is high: its fall asserts the condition. -/
theorem witness_ConditionsActed_low :
    (pouring.withLine 14 ⟨.low, true, 3, true, 2, false⟩).mayRise 14 false
      ∧ (pouring.withLine 14 ⟨.low, true, 3, false, 2, true⟩).mayFall 14 true := by decide
theorem witness_DustConditionsActed :
    (3 : Fin 16).val = alarmLine .z1 ∧ (2 : Fin 16).val = warnLine .z1 ∧ pouring.noticesShaped ∧ pouring.mayRise 3 true
      ∧ (pouring.dust.get .z1).state = .clear ∧ (pouring.dust.get .z1).history.length ≤ 1 ∧ pouring.planSound
      ∧ pourStep.isRunning = true ∧ loaderZone pourStep.loader = .z1 ∧ pouring.dustOf pourStep.loader ≠ .stop
      ∧ ((zoneIn ⟨.warn, none, 30, [0, 1]⟩).dust.get .z1).history.length = 2 ∧ (zoneIn ⟨.warn, none, 30, [0, 1]⟩).mayRise 3 true
      ∧ pouring.mayRise 2 true ∧ ((withL1 .travel).loader .l1).state = .travel ∧ (withL1 .travel).restriction .z1 ≠ .stop := by decide
/-- The part with zone 1 in a state and its warn and alarm lines at levels. -/
def zoneWith (r : ZoneRecord) (high : List Nat) : State := { zoneIn r with lines := linesAt (high ++ [1, 10, 13]) }
theorem witness_DustConditionsActed_falls :
    (zoneWith ⟨.warn, none, 120, []⟩ [2]).mayFall 2 false ∧ (zoneWith ⟨.warn, none, 120, []⟩ [2]).alarms .z1 = false
      ∧ (zoneWith ⟨.alarm, none, 120, [0]⟩ [3]).mayFall 3 false ∧ (zoneWith ⟨.alarm, none, 120, [0]⟩ [3]).warns .z1 = false
      ∧ (zoneWith ⟨.alarm, none, 120, [0]⟩ [2]).mayFall 2 false ∧ (zoneWith ⟨.alarm, none, 120, [0]⟩ [2]).alarms .z1 = false
      ∧ (zoneWith ⟨.alarm, none, 120, [0]⟩ [2, 3]).mayFall 3 false ∧ (zoneWith ⟨.alarm, none, 120, [0]⟩ [2, 3]).warns .z1 = true
      ∧ (zoneWith ⟨.lockout, none, 120, []⟩ []).mayRise 3 true ∧ (zoneWith ⟨.purge, some 1, 120, []⟩ [2]).mayFall 2 false
      ∧ (zoneWith ⟨.alarm, none, 120, [0]⟩ []).mayRise 2 true := by decide
/-- A drive port in the middle of a frame and of a queue. -/
def portBusy : State :=
  pouring.withPort .l1 ⟨.collecting [1#8, 0x3C#8, 2#8], [.stop, .raise], 65535, some (65534, .go 1 2)⟩
set_option maxRecDepth 8000 in
theorem witness_DrivePorts :
    portBusy.mainSupply = true ∧ (portBusy.port .l2).receiver = .hunting
      ∧ (portBusy.port .l1).receiver = .collecting ([1#8] ++ 0x3C#8 :: [2#8]) ∧ 0x3C#8 ∉ [1#8]
      ∧ (portBusy.port .l1).sending.isSome = true ∧ (portBusy.port .l1).orders = .stop :: [.raise]
      ∧ (pouring.port .l1).sending = none ∧ readReport (List.replicate 9 0#8) = none ∧ 0x3C#8 ∉ List.replicate 9 0#8 := by decide
theorem witness_OrdersPlaced :
    (pouring.port .l1).sending = none ∧ (pouring.port .l1).orders = [] ∧ (portBusy.port .l1).sending.isSome = true
      ∧ Order.raise ≠ .stop ∧ (portBusy.port .l1).orders.length < 4
      ∧ ((portBusy.withPort .l1 { portBusy.port .l1 with orders := [.stop, .raise, .lower 1, .go 3 4] }).port .l1).orders =
        [.stop, .raise, .lower 1, .go 3 4] := by decide
theorem witness_OrdersPlaced_stop :
    let s := (withL1 .travel).withPort .l1 (portBusy.port .l1)
    s.takes .terminal ∧ loaderOf 1 = some .l1 ∧ (s.loader .l1).state = .travel
      ∧ (s.loader .l1).lastReport = some ⟨130000, 7500, .ready⟩ ∧ (s.port .l1).sending.isSome = true := by decide
theorem witness_ResetsRestore :
    pouring.mainSupply = true ∧ pouring.bankHeld = true
      ∧ pouring.lot? 1 = some ⟨.opened, some [65], none, { Account.zero with weighed := 240, inTransit := 240 }, none⟩ := by decide

end Sys2Proof.Machine
end

/-! PROOFS of the statements on the Pour Plan's own requests: STEP_DELETE (R6), PLAN_SUBMIT, PLAN_WITHDRAW, PLAN_ACCEPT and
PLAN_RETURN (R9, R10), HOLD, HALT and RELEASE (R20), RESUME (R21). The lemmas before them say what the flow operations do to
the links, to the plan and to one step's record. -/

namespace Sys2Proof.Machine

/-! ### Links take notices only (R165, R166) -/

/-- Changes that leave the links alone add no frame. -/
theorem State.noticedOnly_of_links {s t : State} (h : t.links = s.links) : s.noticedOnly t := fun k =>
  ⟨[], by simp [onlyNotices], by simp [State.link, h]⟩
theorem State.noticedOnly_refl (s : State) : s.noticedOnly s := State.noticedOnly_of_links rfl
theorem State.withPlan_noticedOnly (s : State) (p : Plan) : s.noticedOnly (s.withPlan p) :=
  State.noticedOnly_of_links (s.withPlan_links p)
theorem State.withGate_noticedOnly (s : State) (g : Gate) : s.noticedOnly (s.withGate g) :=
  State.noticedOnly_of_links (s.withGate_links g)
theorem State.withBook_noticedOnly (s : State) (b : Book) : s.noticedOnly (s.withBook b) :=
  State.noticedOnly_of_links (s.withBook_links b)
theorem State.noticedOnly_trans {s t u : State} (h1 : s.noticedOnly t) (h2 : t.noticedOnly u) : s.noticedOnly u := fun k => by
  obtain ⟨fs, hfs, ht⟩ := h1 k
  obtain ⟨gs, hgs, hu⟩ := h2 k
  refine ⟨fs ++ gs, fun f hf => (List.mem_append.1 hf).elim (hfs f) (hgs f), ?_⟩
  rw [hu, ht, List.append_assoc]
/-- The taking of an event on one link adds a notice there, or nothing. -/
theorem State.raiseOn_noticedOnly (s : State) (k : Link) (e : Event) : s.noticedOnly (s.raiseOn k e) := fun j => by
  obtain ⟨r, n, heq, hr, -⟩ := s.raiseOn_eq k e
  rw [heq, State.withNotice_link, State.withLink_link]
  split
  · next hj => exact hj ▸ hr
  · exact s.noticedOnly_refl j
theorem State.raise_noticedOnly (s : State) (e : Event) : s.noticedOnly (s.raise e) :=
  State.noticedOnly_trans (State.noticedOnly_trans (s.raiseOn_noticedOnly _ e) (State.raiseOn_noticedOnly _ _ e))
    (State.raiseOn_noticedOnly _ _ e)
theorem State.closeIfDue_noticedOnly (s : State) (n : Nat) : s.noticedOnly (s.closeIfDue n) := by
  unfold State.closeIfDue
  split
  · split
    · unfold State.closeLot
      split
      · exact State.noticedOnly_trans (s.withBook_noticedOnly _) (State.raise_noticedOnly _ _)
      · exact s.noticedOnly_refl
    · exact s.noticedOnly_refl
  · exact s.noticedOnly_refl
theorem State.foldl_closeIfDue_noticedOnly (l : List Nat) (s : State) : s.noticedOnly (l.foldl State.closeIfDue s) := by
  induction l generalizing s with
  | nil => exact s.noticedOnly_refl
  | cons n rest ih => exact State.noticedOnly_trans (s.closeIfDue_noticedOnly n) (ih _)
theorem State.changeStep_noticedOnly (s : State) (id : Nat) (f : StepRecord → StepRecord) : s.noticedOnly (s.changeStep id f) :=
  State.noticedOnly_trans (State.noticedOnly_trans (s.withPlan_noticedOnly _) (State.raise_noticedOnly _ _))
    (State.foldl_closeIfDue_noticedOnly _ _)
theorem State.clearTagOf_noticedOnly (s : State) (id : Nat) : s.noticedOnly (s.clearTagOf id) := by
  refine State.noticedOnly_of_links ?_
  unfold State.clearTagOf
  split <;> rfl
theorem State.finishRunOut_noticedOnly (s : State) (r : RunOut) : s.noticedOnly (s.finishRunOut r) := by
  unfold State.finishRunOut
  split
  · split
    · exact State.noticedOnly_trans (State.noticedOnly_trans (s.withPlan_noticedOnly _) (State.clearTagOf_noticedOnly _ _))
        (State.changeStep_noticedOnly _ _ _)
    · exact s.noticedOnly_refl
  · exact s.noticedOnly_refl
theorem State.runOutTest_noticedOnly (s : State) : s.noticedOnly s.runOutTest := by
  unfold State.runOutTest
  split
  · split
    · exact s.finishRunOut_noticedOnly _
    · exact s.noticedOnly_refl
  · exact s.noticedOnly_refl
theorem State.markRunOut_noticedOnly (s : State) : s.noticedOnly s.markRunOut := by
  unfold State.markRunOut
  split
  · split
    · exact State.noticedOnly_trans (s.withPlan_noticedOnly _) (State.runOutTest_noticedOnly _)
    · exact s.noticedOnly_refl
  · exact s.noticedOnly_refl
/-- The demand formed again may end a run-out, whose events are all that the links take (R24, R73). -/
theorem State.formDemand_noticedOnly (s : State) : s.noticedOnly s.formDemand :=
  State.noticedOnly_trans (State.noticedOnly_trans (s.withGate_noticedOnly _) (State.markRunOut_noticedOnly _))
    (State.withGate_noticedOnly _ _)
theorem State.testAged_noticedOnly (s : State) : s.noticedOnly s.testAged := by
  unfold State.testAged
  split
  · split
    · exact State.noticedOnly_trans (s.raise_noticedOnly _) (State.withGate_noticedOnly _ _)
    · exact s.noticedOnly_refl
  · exact s.noticedOnly_refl
theorem State.addReason_noticedOnly (s : State) (r : Reason) : s.noticedOnly (s.addReason r) := by
  unfold State.addReason
  split
  · split
    · exact State.noticedOnly_trans (s.changeStep_noticedOnly _ _) (State.formDemand_noticedOnly _)
    · exact s.withPlan_noticedOnly _
  · exact s.noticedOnly_refl
theorem State.resumeStep_noticedOnly (s : State) (id : Nat) : s.noticedOnly (s.resumeStep id) :=
  State.noticedOnly_trans (State.noticedOnly_trans (s.changeStep_noticedOnly _ _) (State.testAged_noticedOnly _))
    (State.formDemand_noticedOnly _)

/-! ### The answer of a taken request (R157, R159) -/

/-- The answer fills the place reserved last when nothing was placed behind it. -/
theorem State.fill_placeFrame (s : State) (k : Link) (f : OutFrame) (tag : Byte)
    (h : ((s.link k).output.all fun g => !g.isReserved) = true) :
    (s.placeFrame k (.reserved tag)).fill k f = s.placeFrame k f := by
  simp only [State.fill, State.placeFrame, State.withLink_link, if_pos]
  rw [fillReserved_append _ _ _ _ h]
  simp [State.withLink]
theorem State.fill_plan (s : State) (k : Link) (f : OutFrame) : (s.fill k f).plan = s.plan := rfl
/-- An answer leaves the demand that its request has formed. -/
theorem State.fill_demand {s : State} (k : Link) (f : OutFrame) (h : s.gate.demand = s.demandNow) :
    (s.fill k f).gate.demand = (s.fill k f).demandNow := h
theorem State.placeFrame_keeps (s : State) (k : Link) (f : OutFrame) : s.keeps (s.placeFrame k f) [.link k] :=
  s.withLink_keeps k _
theorem State.keepsNotifying_of_link {s t : State} {k : Link} (h : s.keeps t [.link k]) (may : List Part) :
    s.keepsNotifying t may :=
  State.keeps_mono h fun p hp => by
    rw [List.mem_singleton.1 hp]
    cases k <;> simp [wires]
/-- An accepted request whose owning block replaces the plan record only. -/
theorem takeRequest_withPlan {k : Link} {tag : Byte} {act : State → Reply} {s : State} {p : Plan} {rec : AnswerRecord}
    (i : Instr) (h : s.takes k)
    (ha : act (s.placeFrame k (.reserved tag)) = .done rec ((s.placeFrame k (.reserved tag)).withPlan p)) :
    takeRequest k tag i act s = .next ((s.withPlan p).answered k tag .done rec) := by
  rw [takeRequest_next k tag i act s _ h ha rfl]
  exact congrArg Host.Outcome.next (State.fill_placeFrame (s.withPlan p) k _ tag h.2.2.2)
/-- An accepted request whose owning block leaves `t` and has raised events only is served: its answer stands ahead of their
notices (log 8). -/
theorem State.served_fill {s t : State} {k : Link} (tag : Byte) (code : AnswerCode) (rec : AnswerRecord) (h : s.takes k)
    (hn : (s.placeFrame k (.reserved tag)).noticedOnly t) : s.served (t.fill k (.answer tag code rec)) k tag code rec := by
  refine ⟨?_, fun j hj => ?_⟩
  · obtain ⟨fs, hfs, ht⟩ := hn k
    refine ⟨fs, hfs, State.fill_link t k _ tag (s.link k) fs h.2.2.2 ?_⟩
    rw [ht]
    simp [State.placeFrame]
  · obtain ⟨fs, hfs, ht⟩ := hn j
    refine ⟨fs, hfs, ?_⟩
    simpa [State.fill, State.placeFrame, hj] using ht
/-- The parts that an owning block keeps are kept by the whole taking of its request. -/
theorem State.keepsNotifying_fill {s t : State} {k : Link} {tag : Byte} {may : List Part} (f : OutFrame)
    (h : (s.placeFrame k (.reserved tag)).keepsNotifying t may) : s.keepsNotifying (t.fill k f) may :=
  State.keepsNotifying_trans (State.keepsNotifying_trans (State.keepsNotifying_of_link (s.placeFrame_keeps k _) may) h)
    (State.keepsNotifying_of_link (t.withLink_keeps k _) may)

/-! ### Steps of a list (R2, R4) -/

/-- A search finds the one element that meets its condition. -/
theorem find?_eq_some_of_forall_eq {α : Type} {p : α → Bool} {l : List α} {a : α} (ha : a ∈ l) (hp : p a = true)
    (huniq : ∀ b ∈ l, p b = true → b = a) : l.find? p = some a := by
  cases hf : l.find? p with
  | none => exact absurd hp (List.find?_eq_none.1 hf a ha)
  | some b => rw [huniq b (List.mem_of_find?_eq_some hf) (List.find?_some hf)]
/-- Two elements that meet a condition met at most once are one. -/
theorem eq_of_countP_le_one {α : Type} {p : α → Bool} {l : List α} (h : l.countP p ≤ 1) {a b : α} (ha : a ∈ l) (hb : b ∈ l)
    (hpa : p a = true) (hpb : p b = true) : a = b := by
  rw [List.countP_eq_length_filter] at h
  have ha' : a ∈ l.filter p := List.mem_filter.2 ⟨ha, hpa⟩
  have hb' : b ∈ l.filter p := List.mem_filter.2 ⟨hb, hpb⟩
  obtain ⟨c, hc⟩ := List.length_eq_one_iff.1 (Nat.le_antisymm h (List.length_pos_of_mem ha'))
  rw [hc, List.mem_singleton] at ha' hb'
  rw [ha', hb']
theorem StepRecord.isRunning_iff (st : StepRecord) : st.isRunning = true ↔ st.state = .feeding ∨ st.state = .suspended := by
  simp [StepRecord.isRunning]
theorem StepRecord.isCurrent_of_isRunning {st : StepRecord} (h : st.isRunning = true) : st.isCurrent = true := by
  simp only [StepRecord.isRunning, StepRecord.isCurrent, Bool.or_eq_true] at h ⊢
  tauto
/-- A step of the list is the one with its id. -/
theorem State.eq_of_id_eq {s : State} (hn : (s.plan.steps.map (·.id)).Nodup) {st q : StepRecord} (hst : st ∈ s.plan.steps)
    (hq : q ∈ s.plan.steps) (h : q.id = st.id) : q = st := List.inj_on_of_nodup_map hn hq hst h
theorem State.step?_of_mem {s : State} (hn : (s.plan.steps.map (·.id)).Nodup) {st : StepRecord} (hst : st ∈ s.plan.steps) :
    s.step? st.id = some st :=
  find?_eq_some_of_forall_eq hst (beq_self_eq_true _) fun _ hq hid => State.eq_of_id_eq hn hst hq (beq_iff_eq.1 hid)
/-- The step in FEEDING or SUSPENDED is the running step, there being one current step at most (R12). -/
theorem State.running?_of_mem {s : State} (hc : s.plan.steps.countP StepRecord.isCurrent ≤ 1) {st : StepRecord}
    (hst : st ∈ s.plan.steps) (hr : st.state = .feeding ∨ st.state = .suspended) : s.running? = some st := by
  have hrun := st.isRunning_iff.2 hr
  exact find?_eq_some_of_forall_eq hst hrun fun q hq hqr =>
    eq_of_countP_le_one hc hq hst (StepRecord.isCurrent_of_isRunning hqr) (StepRecord.isCurrent_of_isRunning hrun)
theorem State.running?_none_iff (s : State) :
    s.running? = none ↔ ∀ st ∈ s.plan.steps, st.state ≠ .feeding ∧ st.state ≠ .suspended := by
  simp [State.running?, StepRecord.isRunning]
theorem State.step?_none_of_forall_ne {s : State} {id : Nat} (h : ∀ st ∈ s.plan.steps, st.id ≠ id) : s.step? id = none := by
  simpa [State.step?] using h
/-- The first step with an id, seen in a list cut before it. -/
theorem State.step?_of_append {s : State} {id : Nat} {pre post : List StepRecord} {st : StepRecord}
    (hs : s.plan.steps = pre ++ st :: post) (hid : st.id = id) (hpre : ∀ q ∈ pre, q.id ≠ id) : s.step? id = some st := by
  have hnone : (pre.find? fun q => q.id == id) = none := by simpa using hpre
  simp [State.step?, hs, hnone, hid]
theorem State.step?_eq_of_plan {s t : State} (h : t.plan = s.plan) (id : Nat) : t.step? id = s.step? id := by
  rw [State.step?, h, State.step?]

/-! ### A step's record changed (R3) -/

/-- What a change of one step's record does to the record with an id. -/
theorem State.step?_modifyStep (s : State) (j id : Nat) (f : StepRecord → StepRecord) (hf : ∀ q, (f q).id = q.id) :
    (s.modifyStep j f).step? id = (s.step? id).map fun q => if q.id = j then f q else q := by
  have hid : ((fun q : StepRecord => q.id == id) ∘ fun q => if q.id = j then f q else q) = fun q => q.id == id := by
    funext q
    by_cases h : q.id = j <;> simp [h, hf]
  simp only [State.step?, State.modifyStep, State.withPlan_plan, List.find?_map, hid]
/-- A change of the record of a step of the list writes one record, its own. -/
theorem State.modifyStep_eq {s : State} (hn : (s.plan.steps.map (·.id)).Nodup) {st : StepRecord} (hst : st ∈ s.plan.steps)
    (f : StepRecord → StepRecord) :
    s.modifyStep st.id f =
      s.withPlan { s.plan with steps := s.plan.steps.map fun q => if q.id = st.id then f st else q } := by
  have hmap : (s.plan.steps.map fun q => if q.id = st.id then f q else q) =
      s.plan.steps.map fun q => if q.id = st.id then f st else q :=
    List.map_congr_left fun q hq => by
      by_cases h : q.id = st.id
      · rw [if_pos h, if_pos h, State.eq_of_id_eq hn hst hq h]
      · rw [if_neg h, if_neg h]
  rw [State.modifyStep, hmap]
theorem State.raise_plan (s : State) (e : Event) : (s.raise e).plan = s.plan := s.raise_keeps e .plan (by simp [wires])
theorem State.closeLots_plan (s : State) : s.closeLots.plan = s.plan := s.closeLots_keeps .plan (by simp [wires])
/-- Of the plan a change of a step's state writes that step's record only: its event and the closing test leave the plan. -/
theorem State.changeStep_plan (s : State) (id : Nat) (f : StepRecord → StepRecord) :
    (s.changeStep id f).plan = (s.modifyStep id f).plan := by
  rw [State.changeStep, State.closeLots_plan, State.raise_plan]
theorem State.step?_changeStep (s : State) (j id : Nat) (f : StepRecord → StepRecord) (hf : ∀ q, (f q).id = q.id) :
    (s.changeStep j f).step? id = (s.step? id).map fun q => if q.id = j then f q else q := by
  rw [State.step?_eq_of_plan (s.changeStep_plan j f), State.step?_modifyStep s j id f hf]

/-! ### The run-out and the demand (R24, R69, R73) -/

theorem State.clearTagOf_steps (s : State) (id : Nat) : (s.clearTagOf id).plan.steps = s.plan.steps := by
  unfold State.clearTagOf
  split <;> rfl
/-- The end of a run-out changes no step but one in CUTOFF (R24). -/
theorem State.finishRunOut_step? {s : State} {id : Nat} {st : StepRecord} (r : RunOut) (h : s.step? id = some st)
    (hc : st.state ≠ .cutoff) : (s.finishRunOut r).step? id = some st := by
  unfold State.finishRunOut
  split
  · next q hq =>
    split
    · next hqc =>
      have hne : st.id ≠ r.step := fun e => by
        have hid : st.id = id := by simpa using List.find?_some h
        rw [← e, hid, h, Option.some.injEq] at hq
        exact hc (hq ▸ hqc)
      have hkeep : ((s.setRunOut none).clearTagOf r.step).step? id = some st := by
        rw [State.step?, State.clearTagOf_steps]
        exact h
      rw [State.step?_changeStep, hkeep, Option.map_some, if_neg hne]
      exact fun _ => rfl
    · exact h
  · exact h
theorem State.runOutTest_step? {s : State} {id : Nat} {st : StepRecord} (h : s.step? id = some st)
    (hc : st.state ≠ .cutoff) : s.runOutTest.step? id = some st := by
  unfold State.runOutTest
  split
  · split
    · exact State.finishRunOut_step? _ h hc
    · exact h
  · exact h
theorem State.markRunOut_step? {s : State} {id : Nat} {st : StepRecord} (h : s.step? id = some st)
    (hc : st.state ≠ .cutoff) : s.markRunOut.step? id = some st := by
  unfold State.markRunOut
  split
  · split
    · exact State.runOutTest_step? h hc
    · exact h
  · exact h
/-- The demand formed again changes no step but one in CUTOFF, whose run-out it may end. -/
theorem State.formDemand_step? {s : State} {id : Nat} {st : StepRecord} (h : s.step? id = some st)
    (hc : st.state ≠ .cutoff) : s.formDemand.step? id = some st :=
  State.markRunOut_step? (s := s.followDemand) h hc
/-- While the run-out record has its mark, or the gate is not found closed, no mark is set. -/
theorem State.markRunOut_of_marked {s : State} (h : s.marked) : s.markRunOut = s := by
  unfold State.markRunOut
  split
  · next r hr =>
    refine if_neg fun hm => ?_
    simp [State.marked, hr, hm.1, hm.2] at h
  · rfl
/-- With no mark to set, the demand formed again touches the gate record only. -/
theorem State.formDemand_of_marked {s : State} (h : s.marked) : s.formDemand = s.followDemand.followDemand := by
  rw [State.formDemand, State.markRunOut_of_marked (s := s.followDemand) h]
theorem Gate.demanded_fault (g : Gate) (d : GateDemand) (shut : Bool) : (g.demanded d shut).fault = g.fault := by
  unfold Gate.demanded
  split <;> rfl
/-- Of the gate record the terms of the demand read the gate fault only (R69, R70). -/
theorem State.demandNow_withGate (s : State) (g : Gate) (h : g.fault = s.gate.fault) : (s.withGate g).demandNow = s.demandNow := by
  have hterms : (s.withGate g).demandTerms = s.demandTerms := by
    funext st
    rw [State.demandTerms, State.withGate_gate, h]
    rfl
  rw [State.demandNow, hterms]
  rfl
theorem State.followDemand_plan (s : State) : s.followDemand.plan = s.plan := rfl
theorem State.followDemand_demandNow (s : State) : s.followDemand.demandNow = s.demandNow :=
  s.demandNow_withGate _ (Gate.demanded_fault _ _ _)
/-- The demand formed again is the one that the state it leaves gives. -/
theorem State.formDemand_demand (s : State) : s.formDemand.gate.demand = s.formDemand.demandNow :=
  (State.followDemand_demand _).trans (State.followDemand_demandNow _).symm
theorem State.testAged_keeps (s : State) : s.keepsNotifying s.testAged [.gate] := by
  unfold State.testAged
  split
  · split
    · exact State.keepsNotifying_trans (State.raise_keepsNotifying _ _ _) (State.keeps_mono (State.withGate_keeps _ _) (by simp))
    · exact s.keepsNotifying_refl _
  · exact s.keepsNotifying_refl _

/-! ### STEP_DELETE (R6) -/

theorem exec_stepDelete (tag : Byte) (id : Nat) (s : State) :
    exec (.stepDelete tag id) s = takeRequest .vessel tag (.stepDelete tag id) (doStepDelete id) s := rfl
/-- STEP_DELETE finds no step to act on in a list closed to edits, without the id, or with the step no longer PENDING. -/
theorem State.pendingStep?_none {s : State} {id : Nat}
    (h : s.editable = false ∨ ∀ st, s.step? id = some st → st.state ≠ .pending) : s.pendingStep? id = none := by
  unfold State.pendingStep?
  split
  · next he =>
    rcases h with hne | hstate
    · rw [he] at hne; cases hne
    · simpa [Option.filter_eq_none_iff] using hstate
  · rfl
theorem State.pendingStep?_some {s : State} {id : Nat} {st : StepRecord} (he : s.editable = true) (h : s.step? id = some st)
    (hp : st.state = .pending) : s.pendingStep? id = some st := by
  simp [State.pendingStep?, he, h, hp]
theorem exec_stepDelete_refused {s : State} (tag : Byte) {id : Nat} (hk : s.takes .vessel) (h : s.pendingStep? id = none) :
    exec (.stepDelete tag id) s = .next (s.answered .vessel tag .state .empty) := by
  have hact : doStepDelete id (s.placeFrame .vessel (.reserved tag)) = .refused .state (s.placeFrame .vessel (.reserved tag)) := by
    have h' : (s.placeFrame .vessel (.reserved tag)).pendingStep? id = none := h
    rw [doStepDelete, h']
  rw [exec_stepDelete, takeRequest_unchanged _ _ _ _ _ _ _ hk hact]
/-- The first step with an id leaves the list and the others close up (R6). -/
theorem State.dropStep_of_append {s : State} {id : Nat} {pre post : List StepRecord} {st : StepRecord}
    (hs : s.plan.steps = pre ++ st :: post) (hid : st.id = id) (hpre : ∀ q ∈ pre, q.id ≠ id) :
    s.dropStep id = s.withPlan
      { s.plan with
        state := if pre ++ post = [] then .empty else s.plan.state
        steps := pre ++ post } := by
  have hdrop : (s.plan.steps.eraseP fun q => q.id == id) = pre ++ post := by
    rw [hs, List.eraseP_append_right _ (by simpa using hpre), List.eraseP_cons_of_pos (by simp [hid])]
  simp only [State.dropStep, hdrop, List.isEmpty_iff]

/-- Settles O33: a refusal is a failed search for a PENDING step, and the removal cuts the list at the step found. -/
theorem stepDeleted : Obligations.StepDeleted := by
  intro tag id s hk
  refine ⟨fun hstate => ?_, fun hid => ?_, fun pre post st hs hid hpre => ?_⟩
  · refine exec_stepDelete_refused tag hk (State.pendingStep?_none (.inl ?_))
    rcases hstate with h | h <;> simp [State.editable, h]
  · refine exec_stepDelete_refused tag hk (State.pendingStep?_none (.inr fun st hst => ?_))
    rw [State.step?_none_of_forall_ne hid] at hst
    cases hst
  · have hstep : s.step? id = some st := State.step?_of_append hs hid hpre
    refine ⟨fun hp => exec_stepDelete_refused tag hk (State.pendingStep?_none (.inr fun q hq => ?_)), fun hp hstate => ?_⟩
    · rw [hstep, Option.some.injEq] at hq
      exact hq ▸ hp
    · have he : s.editable = true := by simpa [State.editable] using hstate
      have hpend : (s.placeFrame .vessel (.reserved tag)).pendingStep? id = some st :=
        State.pendingStep?_some (s := s) he hstep hp
      rw [exec_stepDelete]
      refine takeRequest_withPlan _ hk ?_
      rw [doStepDelete, hpend]
      exact congrArg (Reply.done .empty)
        (State.dropStep_of_append (s := s.placeFrame .vessel (.reserved tag)) hs hid hpre)

/-! ### PLAN_SUBMIT, PLAN_WITHDRAW, PLAN_ACCEPT and PLAN_RETURN (R9, R10) -/

theorem exec_planSubmit (tag : Byte) (s : State) :
    exec (.planSubmit tag) s = takeRequest .vessel tag (.planSubmit tag) doPlanSubmit s := rfl
theorem exec_planWithdraw (tag : Byte) (s : State) :
    exec (.planWithdraw tag) s = takeRequest .vessel tag (.planWithdraw tag) doPlanWithdraw s := rfl
theorem exec_planAccept (tag : Byte) (s : State) :
    exec (.planAccept tag) s = takeRequest .terminal tag (.planAccept tag) doPlanAccept s := rfl
theorem exec_planReturn (tag : Byte) (s : State) :
    exec (.planReturn tag) s = takeRequest .terminal tag (.planReturn tag) doPlanReturn s := rfl
theorem doPlanSubmit_eq (s : State) : doPlanSubmit s =
    if s.plan.state = .draft then .done .empty (s.withPlan { s.plan with state := .submitted }) else .refused .state s := rfl
theorem doPlanWithdraw_eq (s : State) : doPlanWithdraw s =
    if s.plan.state = .submitted then .done .empty (s.withPlan { s.plan with state := .draft }) else .refused .state s := rfl
/-- The flags and the plan state set by PLAN_ACCEPT, as one plan record. -/
theorem doPlanAccept_eq (s : State) : doPlanAccept s =
    if s.plan.state = .submitted ∨ s.plan.state = .accepted then
      .done .empty (s.withPlan
        { s.plan with state := .accepted, steps := s.plan.steps.map fun st => { st with accepted := true } })
    else .refused .state s := rfl
/-- The flags and the plan state set by PLAN_RETURN, as one plan record. -/
theorem doPlanReturn_eq (s : State) : doPlanReturn s =
    if s.plan.state = .submitted then
      .done .empty (s.withPlan
        { s.plan with state := .draft, steps := s.plan.steps.map fun st => { st with accepted := false } })
    else .refused .state s := rfl
/-- A request on a plan state: where the plan state admits it the plan record is replaced, and elsewhere it is refused with
STATE. -/
theorem takeRequest_planMove {k : Link} {tag : Byte} {act : State → Reply} {s : State} (i : Instr) (h : s.takes k) (c : Prop)
    [Decidable c] (p : Plan)
    (ha : ∀ t : State, t.plan = s.plan → act t = if c then .done .empty (t.withPlan p) else .refused .state t) :
    takeRequest k tag i act s = .next
      (if c then (s.withPlan p).answered k tag .done .empty else s.answered k tag .state .empty) := by
  have hact := ha (s.placeFrame k (.reserved tag)) rfl
  split
  · next hc => exact takeRequest_withPlan i h (by rw [hact, if_pos hc])
  · next hc => exact takeRequest_unchanged k tag i act s _ _ h (by rw [hact, if_neg hc]; rfl)

/-- Settles O35: each of the four is a test of the plan state and one new plan record. -/
theorem planMoves : Obligations.PlanMoves := by
  intro tag s
  rw [exec_planSubmit, exec_planWithdraw, exec_planAccept, exec_planReturn]
  refine ⟨fun hk => ⟨?submit, ?withdraw⟩, fun hk => ⟨?accept, ?giveBack⟩⟩
  case submit => exact takeRequest_planMove _ hk _ _ fun t ht => by rw [doPlanSubmit_eq, ht]
  case withdraw => exact takeRequest_planMove _ hk _ _ fun t ht => by rw [doPlanWithdraw_eq, ht]
  case accept => exact takeRequest_planMove _ hk _ _ fun t ht => by rw [doPlanAccept_eq, ht]
  case giveBack => exact takeRequest_planMove _ hk _ _ fun t ht => by rw [doPlanReturn_eq, ht]

/-! ### HOLD, HALT and RELEASE (R20) -/

theorem exec_hold (tag : Byte) (s : State) : exec (.hold tag) s = takeRequest .terminal tag (.hold tag) doHold s := rfl
theorem exec_halt (tag : Byte) (s : State) : exec (.halt tag) s = takeRequest .vessel tag (.halt tag) doHalt s := rfl
theorem exec_release (tag : Byte) (s : State) : exec (.release tag) s = takeRequest .vessel tag (.release tag) doRelease s := rfl
theorem doHold_none {s : State} (h : s.running? = none) : doHold s = .refused .state s := by rw [doHold, h]
theorem doHold_some {s : State} {st : StepRecord} (h : s.running? = some st) : doHold s = .done .empty (s.addReason .terminal) := by
  rw [doHold, h]
theorem doHalt_none {s : State} (h : s.running? = none) : doHalt s = .refused .state s := by rw [doHalt, h]
theorem doHalt_some {s : State} {st : StepRecord} (h : s.running? = some st) : doHalt s = .done .empty (s.addReason .vessel) := by
  rw [doHalt, h]
theorem doRelease_none {s : State} (h : s.running? = none) : doRelease s = .refused .state s := by rw [doRelease, h]
theorem doRelease_some {s : State} {st : StepRecord} (h : s.running? = some st) :
    doRelease s = if st.suspension.vessel then .done .empty (s.removeReason .vessel) else .refused .state s := by
  rw [doRelease, h]
/-- A reason added to the running step, FEEDING or SUSPENDED, leaves it SUSPENDED with that reason (R19). -/
theorem State.addReason_step? {s : State} (hn : (s.plan.steps.map (·.id)).Nodup)
    (hc : s.plan.steps.countP StepRecord.isCurrent ≤ 1) {st : StepRecord} (hst : st ∈ s.plan.steps)
    (hr : st.state = .feeding ∨ st.state = .suspended) (r : Reason) :
    (s.addReason r).step? st.id = some { st with state := .suspended, suspension := st.suspension.put r true } := by
  have hstep := State.step?_of_mem hn hst
  rw [State.addReason, State.running?_of_mem hc hst hr]
  rcases hr with hf | hs
  · simp only [hf, if_true]
    refine State.formDemand_step? ?_ (by simp)
    rw [State.step?_changeStep, hstep, Option.map_some, if_pos rfl]
    exact fun _ => rfl
  · simp only [hs, reduceCtorEq, if_false]
    rw [State.step?_modifyStep, hstep, Option.map_some, if_pos rfl]
    · simp [hs]
    · exact fun _ => rfl
/-- A request that adds a reason to the running step: what HOLD and HALT share. -/
theorem takeRequest_addReason {k : Link} {tag : Byte} {act : State → Reply} {s : State} {st : StepRecord} (i : Instr)
    (hk : s.takes k) (hsound : s.planSound) (hst : st ∈ s.plan.steps) (hr : st.state = .feeding ∨ st.state = .suspended)
    (r : Reason) (ha : ∀ t : State, t.running? = some st → act t = .done .empty (t.addReason r)) :
    ∃ t : State, takeRequest k tag i act s = .next t
      ∧ t.step? st.id = some { st with state := .suspended, suspension := st.suspension.put r true }
      ∧ s.served t k tag .done .empty ∧ s.keepsNotifying t [.plan, .gate, .weigh, .book] := by
  obtain ⟨hn, -, hc, -⟩ := hsound
  have hact := ha (s.placeFrame k (.reserved tag)) (State.running?_of_mem hc hst hr)
  exact ⟨_, takeRequest_next k tag i act s _ hk hact rfl,
    State.addReason_step? (s := s.placeFrame k (.reserved tag)) hn hc hst hr r,
    State.served_fill tag .done .empty hk (State.addReason_noticedOnly _ r),
    State.keepsNotifying_fill _ (State.addReason_flow _ r)⟩

/-- Settles O41: the running step is unique under `planSound`, and the demand formed after its suspension leaves its record. -/
theorem holdHaltRelease : Obligations.HoldHaltRelease := by
  intro tag s hsound
  rw [exec_hold, exec_halt, exec_release]
  refine ⟨fun hnone => ?_, fun st hst hr => ?_⟩
  · have hrun : ∀ k, (s.placeFrame k (.reserved tag)).running? = none := fun _ => s.running?_none_iff.2 hnone
    refine ⟨fun hk => ?_, fun hk => ⟨?_, ?_⟩⟩
    · exact takeRequest_unchanged _ _ _ _ _ _ _ hk (doHold_none (hrun _))
    · exact takeRequest_unchanged _ _ _ _ _ _ _ hk (doHalt_none (hrun _))
    · exact takeRequest_unchanged _ _ _ _ _ _ _ hk (doRelease_none (hrun _))
  · refine ⟨fun hk => ?_, fun hk => ⟨?_, fun hv => ?_, fun hv => ?_⟩⟩
    · exact takeRequest_addReason _ hk hsound hst hr .terminal fun _ => doHold_some
    · exact takeRequest_addReason _ hk hsound hst hr .vessel fun _ => doHalt_some
    all_goals
      obtain ⟨hn, -, hc, -⟩ := hsound
      have hrun : (s.placeFrame .vessel (.reserved tag)).running? = some st := State.running?_of_mem hc hst hr
    · refine takeRequest_withPlan _ hk ?_
      rw [doRelease_some hrun, if_pos hv, State.removeReason, hrun]
      exact congrArg (Reply.done .empty) (State.modifyStep_eq (s := s.placeFrame .vessel (.reserved tag)) hn hst _)
    · exact takeRequest_unchanged _ _ _ _ _ _ _ hk (by rw [doRelease_some hrun, hv]; rfl)

/-! ### RESUME (R21) -/

theorem exec_resume (tag : Byte) (s : State) : exec (.resume tag) s = takeRequest .terminal tag (.resume tag) doResume s := rfl
/-- Without a SUSPENDED step RESUME is refused and lists no reason. -/
theorem doResume_not_suspended {s : State} (h : ∀ st ∈ s.plan.steps, st.state ≠ .suspended) :
    doResume s = ⟨.state, .reasons ReasonSet.none, s, none⟩ := by
  unfold doResume
  split
  · rfl
  · next st hrun => rw [if_neg (h st (List.mem_of_find?_eq_some hrun))]
theorem doResume_suspended {s : State} {st : StepRecord} (hrun : s.running? = some st) (hs : st.state = .suspended) :
    doResume s =
      if ({ st.suspension with terminal := false } : ReasonSet) = ReasonSet.none then .done .empty (s.resumeStep st.id)
      else ⟨.state, .reasons st.suspension, s, none⟩ := by
  simp only [doResume, hrun, hs, if_true]
  rfl
/-- A return to FEEDING leaves the run-out record and the lines alone, so that its demand sets no mark: it changes the plan by
the step's record only, and the weighing state not at all. -/
theorem State.resumeStep_of_marked {s : State} (hm : s.marked) (id : Nat) :
    (s.resumeStep id).plan = (s.modifyStep id StepRecord.resumed).plan
      ∧ s.keepsNotifying (s.resumeStep id) [.plan, .gate, .book] := by
  have hkeep : s.keepsNotifying (s.changeStep id StepRecord.resumed).testAged [.plan, .gate, .book] :=
    State.keepsNotifying_trans (State.keepsNotifying_mono (s.changeStep_keeps id _) (by simp))
      (State.keepsNotifying_mono (State.testAged_keeps _) (by simp))
  have hlines : (s.changeStep id StepRecord.resumed).testAged.lines = s.lines := hkeep .lines (by simp [wires])
  have hplan : (s.changeStep id StepRecord.resumed).testAged.plan = (s.modifyStep id StepRecord.resumed).plan :=
    (State.testAged_keeps _ .plan (by simp [wires])).trans (s.changeStep_plan id _)
  have hmarked : (s.changeStep id StepRecord.resumed).testAged.marked := by
    simpa [State.marked, hplan, State.modifyStep, State.gateShut, State.cond, State.line, hlines] using hm
  rw [State.resumeStep, State.formDemand_of_marked hmarked]
  have hgate : ∀ t : State, t.keepsNotifying t.followDemand [.plan, .gate, .book] := fun t =>
    State.keeps_mono (t.withGate_keeps _) (by simp)
  rw [State.followDemand_plan, State.followDemand_plan]
  exact ⟨hplan, State.keepsNotifying_trans (State.keepsNotifying_trans hkeep (hgate _)) (hgate _)⟩

/-- Settles O42: under `marked` the demand formed after the return to FEEDING sets no run-out mark, so that the plan differs
by the step's record alone. -/
theorem resumeFeeds : Obligations.ResumeFeeds := by
  intro tag s ⟨hn, _, hc, _⟩ hk
  rw [exec_resume]
  refine ⟨fun hnone => ?_, fun st hst hs => ?_⟩
  · exact takeRequest_unchanged _ _ _ _ _ _ _ hk (doResume_not_suspended (s := s.placeFrame .terminal (.reserved tag)) hnone)
  · have hact := doResume_suspended (s := s.placeFrame .terminal (.reserved tag)) (State.running?_of_mem hc hst (.inr hs)) hs
    refine ⟨fun hother => ?_, fun hnone hm => ?_⟩
    · exact takeRequest_unchanged _ _ _ _ _ _ _ hk (hact.trans (if_neg hother))
    · rw [if_pos hnone] at hact
      obtain ⟨hplan, hkeep⟩ := State.resumeStep_of_marked (s := s.placeFrame .terminal (.reserved tag)) hm st.id
      refine ⟨_, takeRequest_next _ _ _ _ _ _ hk hact rfl, (State.fill_plan _ _ _).trans (hplan.trans ?_),
        State.fill_demand _ _ (State.formDemand_demand _),
        State.served_fill tag .done .empty hk (State.resumeStep_noticedOnly _ _), State.keepsNotifying_fill _ hkeep⟩
      exact congrArg State.plan
        (State.modifyStep_eq (s := s.placeFrame .terminal (.reserved tag)) hn hst StepRecord.resumed)

end Sys2Proof.Machine

/-! PROOFS of FLUSH (R46) and HATCH_DELETE (R30, R44). The lemmas before them say how a request that raises no event is answered,
what a change of one numbered place leaves, and which entries an invalidation concerns. -/

namespace Sys2Proof.Machine

/-! ### A request that raises no event (R157, R159) -/

/-- An accepted request whose owning block leaves the links alone: its answer stands at the tail of its link's output queue. -/
theorem takeRequest_done {k : Link} {tag : Byte} {act : State → Reply} {s t : State} {rec : AnswerRecord} (i : Instr)
    (h : s.takes k) (ht : t.links = s.links)
    (ha : act (s.placeFrame k (.reserved tag)) = .done rec (t.placeFrame k (.reserved tag))) :
    takeRequest k tag i act s = .next (t.answered k tag .done rec) := by
  have hlink : t.link k = s.link k := congrArg (PerLink.get · k) ht
  rw [takeRequest_next k tag i act s _ h ha rfl]
  exact congrArg Host.Outcome.next (State.fill_placeFrame t k _ tag (hlink ▸ h.2.2.2))
/-- An answer over a state with its links unchanged is served, with no notice behind it. -/
theorem State.served_answered {s t : State} (k : Link) (tag : Byte) (code : AnswerCode) (rec : AnswerRecord)
    (ht : t.links = s.links) : s.served (t.answered k tag code rec) k tag code rec := by
  have hlink : ∀ j, t.link j = s.link j := fun j => congrArg (PerLink.get · j) ht
  refine ⟨⟨[], by simp [onlyNotices], by simp [State.answered, State.placeFrame, hlink]⟩, fun j hj => ?_⟩
  have hother : (t.answered k tag code rec).link j = s.link j := by simp [State.answered, State.placeFrame, hj, hlink]
  rw [hother]
  exact s.noticedOnly_refl j

/-! ### Numbered places and the Hatch Table (R28) -/

theorem slot?_setSlot_same {α : Type} {l : List α} {n : Nat} (h1 : 1 ≤ n) (hn : n ≤ l.length) (v : α) :
    slot? (setSlot l n v) n = some v := by
  have h0 : n ≠ 0 := by omega
  have hlt : n - 1 < l.length := by omega
  simp [slot?, setSlot, h0, hlt]
theorem slot?_setSlot_ne {α : Type} (l : List α) {n j : Nat} (h : j ≠ n) (v : α) :
    slot? (setSlot l n v) j = slot? l j := by
  unfold slot? setSlot
  split
  · rfl
  · split
    · rfl
    · exact List.getElem?_set_ne (by omega)
theorem State.setHold_descriptor?_same {s : State} {h : Nat} (h1 : 1 ≤ h) (hh : h ≤ s.hatch.holds.length)
    (d : Option HoldDescriptor) : (s.setHold h d).descriptor? h = d := by
  rw [State.descriptor?, State.setHold, State.withHatch_hatch, slot?_setSlot_same h1 hh, Option.join_some]
theorem State.setHold_descriptor?_ne (s : State) {h j : Nat} (hj : j ≠ h) (d : Option HoldDescriptor) :
    (s.setHold h d).descriptor? j = s.descriptor? j := by
  rw [State.descriptor?, State.setHold, State.withHatch_hatch, slot?_setSlot_ne _ hj, State.descriptor?]
theorem holdOk_iff (h : Nat) : holdOk h = true ↔ 1 ≤ h ∧ h ≤ 12 := by simp [holdOk, inRange]

/-! ### The entries that an invalidation concerns (R44, R46) -/

theorem CacheEntry.concerned_eq (e : CacheEntry) (sel : Key → Bool) : e.concerned sel = e.key?.any sel := by
  cases e <;> rfl
theorem CacheEntry.concerned_iff (e : CacheEntry) (sel : Key → Bool) :
    e.concerned sel = true ↔ ∃ k, e.key? = some k ∧ sel k = true := by
  rw [CacheEntry.concerned_eq, Option.any_eq_true]
/-- The entries after an invalidation are the ones that R44 writes out. -/
theorem Cache.invalidate_entries (c : Cache) (sel : Key → Bool) :
    (c.invalidate sel).entries = c.entries.map fun e => invalidatedAs (e.key?.any sel) e := by
  refine List.map_congr_left fun e _ => ?_
  rw [CacheEntry.concerned_eq]
  cases e with
  | invalid => rfl
  | valid k p => rfl
  | pinned k p l => rfl
  | stale k p l => exact ite_self _
theorem Cache.invalidCount_eq (c : Cache) (sel : Key → Bool) :
    c.invalidCount sel = c.entries.countP fun e => e.isValid && e.key?.any sel := by
  simp only [Cache.invalidCount, CacheEntry.concerned_eq]
theorem Cache.mem_staleLoaders (c : Cache) (sel : Key → Bool) (l : Loader) :
    l ∈ c.staleLoaders sel ↔ ∃ e ∈ c.entries, e.concerned sel = true ∧ e.pinner? = some l := by
  simp only [Cache.staleLoaders, List.mem_filterMap, List.mem_filter, and_assoc]
/-- With no pinned entry concerned an invalidation raises no event: it rewrites the cache only. -/
theorem State.invalidate_of_unpinned {s : State} {sel : Key → Bool} (h : s.cache.staleLoaders sel = []) :
    s.invalidate sel = s.withCache (s.cache.invalidate sel) := by
  rw [State.invalidate, h]
  rfl

/-! ### FLUSH (R46) -/

theorem exec_flush (tag : Byte) (s : State) : exec (.flush tag) s = takeRequest .terminal tag (.flush tag) doFlush s := rfl

/-- Settles O21: FLUSH rewrites the entries one by one and raises nothing. -/
theorem flushDiscardsValid : Obligations.FlushDiscardsValid := by
  intro tag s hk
  refine ⟨s.cache.entries.map CacheEntry.flushed, ?_, List.length_map _, fun i e he => ?_⟩
  · rw [exec_flush]
    exact takeRequest_done _ hk (s.withCache_links _) rfl
  · rw [List.getElem?_map, he]
    rfl

/-! ### HATCH_DELETE (R30, R44) -/

theorem exec_hatchDelete (tag : Byte) (h : Nat) (s : State) :
    exec (.hatchDelete tag h) s = takeRequest .vessel tag (.hatchDelete tag h) (doHatchDelete h) s := rfl
/-- The third check of HATCH_DELETE passes when no pinned entry is of the hold. -/
theorem Cache.staleLoaders_ofHold_eq_nil_iff (c : Cache) (h : Nat) :
    c.staleLoaders (ofHold h) = [] ↔
      ∀ e ∈ c.entries, ∀ (k : Key) (l : Loader), e.key? = some k → e.pinner? = some l → k.hold ≠ h := by
  simp only [List.eq_nil_iff_forall_not_mem, Cache.mem_staleLoaders, CacheEntry.concerned_iff, ofHold, beq_iff_eq]
  constructor
  · exact fun hnone e he k l hk hl hh => hnone l ⟨e, he, ⟨k, hk, hh⟩, hl⟩
  · rintro hfree l ⟨e, he, ⟨k, hk, hh⟩, hl⟩
    exact hfree e he k l hk hl hh
theorem doHatchDelete_range {h : Nat} (hh : h = 0 ∨ 12 < h) (s : State) : doHatchDelete h s = .refused .range s := by
  have hok : holdOk h = false := by
    rw [← Bool.not_eq_true, holdOk_iff]
    omega
  simp [doHatchDelete, hok]
theorem doHatchDelete_absent {h : Nat} {s : State} (h1 : 1 ≤ h) (h12 : h ≤ 12) (hd : s.descriptor? h = none) :
    doHatchDelete h s = .refused .noHold s := by
  simp [doHatchDelete, (holdOk_iff h).2 ⟨h1, h12⟩, hd]
theorem doHatchDelete_pinned {h : Nat} {s : State} {d : HoldDescriptor} (h1 : 1 ≤ h) (h12 : h ≤ 12)
    (hd : s.descriptor? h = some d) (hp : s.cache.staleLoaders (ofHold h) ≠ []) :
    doHatchDelete h s = .refused .state s := by
  simp [doHatchDelete, (holdOk_iff h).2 ⟨h1, h12⟩, hd, hp]
/-- The part with a hold made absent and the entries of the hold invalidated. -/
def State.holdDeleted (s : State) (h : Nat) : State := (s.setHold h none).withCache (s.cache.invalidate (ofHold h))
theorem State.holdDeleted_keeps (s : State) (h : Nat) : s.keeps (s.holdDeleted h) [.hatch, .cache] :=
  State.keeps_trans (State.keeps_mono (s.withHatch_keeps _) (by simp)) (State.keeps_mono (State.withCache_keeps _ _) (by simp))
theorem doHatchDelete_done {h : Nat} {s : State} {d : HoldDescriptor} (h1 : 1 ≤ h) (h12 : h ≤ 12)
    (hd : s.descriptor? h = some d) (hp : s.cache.staleLoaders (ofHold h) = []) :
    doHatchDelete h s = .done (.counts (s.cache.invalidCount (ofHold h)) 0) (s.holdDeleted h) := by
  have hinv : (s.setHold h none).invalidate (ofHold h) = s.holdDeleted h :=
    State.invalidate_of_unpinned (s := s.setHold h none) hp
  simp [doHatchDelete, (holdOk_iff h).2 ⟨h1, h12⟩, hd, hp, hinv, State.invalidationCounts]

/-- Settles O23: the loaders whose pinned entries would turn stale are those of the third check, so that an accepted deletion
has none to tell. -/
theorem hatchDeleted : Obligations.HatchDeleted := by
  intro tag h s hk hlen
  rw [exec_hatchDelete]
  refine ⟨fun hh => ?_, fun h1 h12 hd => ?_, fun d h1 h12 hd hpin => ?_, fun d h1 h12 hd hfree => ?_⟩
  · exact takeRequest_unchanged _ _ _ _ _ _ _ hk (doHatchDelete_range hh _)
  · exact takeRequest_unchanged _ _ _ _ _ _ _ hk (doHatchDelete_absent h1 h12 hd)
  · obtain ⟨e, he, k, l, hkey, hl, hh⟩ := hpin
    have hp : s.cache.staleLoaders (ofHold h) ≠ [] := fun hnil =>
      (s.cache.staleLoaders_ofHold_eq_nil_iff h).1 hnil e he k l hkey hl hh
    exact takeRequest_unchanged _ _ _ _ _ _ _ hk (doHatchDelete_pinned h1 h12 hd hp)
  · have hp := (s.cache.staleLoaders_ofHold_eq_nil_iff h).2 hfree
    have hdone : doHatchDelete h (s.placeFrame .vessel (.reserved tag)) =
        .done (.counts (s.cache.invalidCount (ofHold h)) 0) ((s.holdDeleted h).placeFrame .vessel (.reserved tag)) :=
      doHatchDelete_done (s := s.placeFrame .vessel (.reserved tag)) h1 h12 hd hp
    rw [Cache.invalidCount_eq] at hdone
    exact ⟨_, takeRequest_done (t := s.holdDeleted h) _ hk rfl hdone, s.setHold_descriptor?_same h1 (hlen ▸ h12) none,
      fun j hj => s.setHold_descriptor?_ne hj none, rfl, rfl, s.cache.invalidate_entries (ofHold h),
      State.served_answered _ _ _ _ rfl,
      State.keeps_trans (State.keeps_mono (s.holdDeleted_keeps h) (by simp))
        (State.keeps_mono (State.placeFrame_keeps _ _ _) (by simp))⟩

end Sys2Proof.Machine

/-! PROOFS of METROLOGY_LOCK (R86) with the clearing of the flag by retained clear (R84, R119, R121). The lemmas before them say
that the events of a reset change the output queues and the notice records only. -/

namespace Sys2Proof.Machine

/-! ### The events of a reset (R169) -/

theorem State.raiseLots_keeps (s : State) (ns : List Nat) : s.keeps (s.raiseLots ns) wires := by
  induction ns generalizing s with
  | nil => exact s.keeps_refl _
  | cons n rest ih => exact State.keeps_trans (s.raise_keeps _) (ih _)
theorem State.raiseResetAlarm_keeps (s : State) (z : Zone) : s.keeps (s.raiseResetAlarm z) wires := by
  unfold State.raiseResetAlarm
  split
  · exact s.raise_keeps _
  · exact s.keeps_refl _
theorem State.resetEvents_keeps (s : State) (closed : List Nat) : s.keeps (s.resetEvents closed) wires := by
  have halarms (u : State) : u.keeps
      ((((u.raiseResetAlarm .z1).raiseResetAlarm .z2).raiseResetAlarm .z3).raiseLots closed) wires :=
    State.keeps_trans (State.keeps_trans (State.keeps_trans (u.raiseResetAlarm_keeps .z1) (State.raiseResetAlarm_keeps _ .z2))
      (State.raiseResetAlarm_keeps _ .z3)) (State.raiseLots_keeps _ closed)
  unfold State.resetEvents
  split
  · exact State.keeps_trans (s.raise_keeps _) (halarms _)
  · exact halarms s
/-- Retained clear leaves the Weighing Unit as reset with the metrology defaults (R84, R121). -/
theorem State.retainedClear_weigh (s : State) (raw : Half) (strapClosed : Bool) (kind : RestartKind) :
    (s.retainedClear raw strapClosed kind).weigh = resetWeigh defaultMetrology :=
  State.resetEvents_keeps (s.volatileReset raw strapClosed kind (s.book.blank kind) defaultMetrology) [] .weigh
    (by simp [wires])

/-! ### The commands that clear the retained record (R119) -/

theorem exec_retainedClear (raw : Half) (strapClosed : Bool) (s : State) :
    exec (.retainedClear raw strapClosed) s =
      s.powered fun s => .next (s.retainedClear raw strapClosed .clearLine) := rfl
/-- A power-on with the retained bank judged not valid is a retained clear. -/
theorem exec_powerOn_unheld {raw : Half} {strapClosed : Bool} {s : State} (h : s.bankHeld = false) :
    exec (.powerOn raw strapClosed) s = .next (s.retainedClear raw strapClosed .clearBank) := by
  have hexec : exec (.powerOn raw strapClosed) s = execPowerOn raw strapClosed s := rfl
  simp [hexec, execPowerOn, h]

/-! ### METROLOGY_LOCK (R86) -/

theorem exec_metrologyLock (tag : Byte) (s : State) :
    exec (.metrologyLock tag) s = takeRequest .survey tag (.metrologyLock tag) doMetrologyLock s := rfl
/-- The part with the lock flag set. -/
def State.metrologyLocked (s : State) : State :=
  s.withWeigh { s.weigh with metrology := { s.weigh.metrology with locked := true } }
theorem doMetrologyLock_clear {s : State} (h : s.weigh.metrology.locked = false) :
    doMetrologyLock s = .done .empty s.metrologyLocked := by
  simp [doMetrologyLock, State.metrologyLocked, h]
theorem doMetrologyLock_set {s : State} (h : s.weigh.metrology.locked = true) : doMetrologyLock s = .refused .locked s := by
  simp [doMetrologyLock, h]

/-- Settles O52: the request raises no event on either outcome, and the events of a reset leave the Weighing Unit. -/
theorem metrologyLocks : Obligations.MetrologyLocks := by
  intro tag raw strap s
  refine ⟨fun hk => ?_, fun hsupply => ?_, fun hbank => ?_⟩
  · rw [exec_metrologyLock]
    split
    · next hclear =>
      exact takeRequest_done (t := s.metrologyLocked) _ hk (s.withWeigh_links _)
        (doMetrologyLock_clear (s := s.placeFrame .survey (.reserved tag)) hclear)
    · next hset =>
      exact takeRequest_unchanged _ _ _ _ _ _ _ hk
        (doMetrologyLock_set (s := s.placeFrame .survey (.reserved tag)) (Bool.eq_true_of_not_eq_false hset))
  · exact ⟨_, (exec_retainedClear raw strap s).trans (s.powered_on _ hsupply),
      congrArg Weigh.metrology (s.retainedClear_weigh _ _ _)⟩
  · exact ⟨_, exec_powerOn_unheld hbank, congrArg Weigh.metrology (s.retainedClear_weigh _ _ _)⟩

end Sys2Proof.Machine
